-- ==== Sys2Proof/Word.lean ====
section
/-!
DEFINITION. The word types of the part and the one container its tables are kept in.
-/

namespace Sys2Proof

/-- One byte of a site frame or a trunk frame (R171, R186). -/
abbrev Byte := BitVec 8

/-- A value of the tenths count, which wraps after 4,294,967,295 (R25, R26). -/
abbrev Tenths := BitVec 32

/-- A table of the part that has exactly `n` records at all times (the door table has 504, R1). -/
structure Table (α : Type) (n : Nat) where
  rows : List α
  size : rows.length = n
  deriving DecidableEq, Repr

/-- A table whose records are all `a`. -/
def Table.replicate {α : Type} (n : Nat) (a : α) : Table α n :=
  ⟨List.replicate n a, List.length_replicate⟩

/-- Record `i`, or `a` where the table has no record `i`. -/
def Table.getD {α : Type} {n : Nat} (t : Table α n) (i : Nat) (a : α) : α :=
  (t.rows[i]?).getD a

/-- The table with record `i` replaced; unchanged where it has no record `i`. -/
def Table.set {α : Type} {n : Nat} (t : Table α n) (i : Nat) (a : α) : Table α n :=
  ⟨t.rows.set i a, by rw [List.length_set]; exact t.size⟩

/-- Every record rewritten, each with its number. -/
def Table.mapIdx {α β : Type} {n : Nat} (f : Nat → α → β) (t : Table α n) : Table β n :=
  ⟨t.rows.mapIdx f, by rw [List.length_mapIdx]; exact t.size⟩

end Sys2Proof
end

