-- ==== Sys2Proof/Syntax.lean ====
section
/-!
DEFINITION. The commands of the part: one constructor of `Instr` per row of spec/opcode_table.json.

A command that stands for a taken site frame carries the frame's tag and its operands as the wire
carries them (R186, R187), before any check: a number too large for its field's values is the
owner's to refuse or to clamp. A command that stands for an event on one trunk carries the trunk's
number, and a frame heard on a trunk is carried as the bytes heard.
-/

namespace Sys2Proof

/-- The fields of a DOOR COMMAND frame but for its action, with the frame's tag (R144). -/
structure DoorCmd where
  tag : Nat
  door : Nat
  cls : Nat
  duration : Nat
  pulse : Nat
  deriving DecidableEq, Repr

/-- The operands of LOAD DOOR (R7). -/
structure LoadDoorReq where
  door : Nat
  mapped : Nat
  trunk : Nat
  node : Nat
  zone : Nat
  lockClass : Nat
  egress : Nat
  guarded : Nat
  watched : Nat
  deriving DecidableEq, Repr

/-- The operands of LOAD ZONE (R4). -/
structure LoadZoneReq where
  zone : Nat
  defaultState : Nat
  rank : Nat
  floor : Nat
  step : Nat
  retry : Nat
  limit : Nat
  settle : Nat
  deriving DecidableEq, Repr

/-- The operands of LOAD WINDOW (R36). -/
structure LoadWindowReq where
  slot : Nat
  zone : Nat
  plans : Nat
  start : Nat
  length : Nat
  action : Nat
  priority : Nat
  single : Nat
  deriving DecidableEq, Repr

/-- The operands of LOAD TRUNK (R120). -/
structure LoadTrunkReq where
  trunk : Nat
  enabled : Nat
  budget : Nat
  level : Nat
  day : Nat
  night : Nat
  shared : Nat
  deriving DecidableEq, Repr

/-- Why the site receiver abandons the frame in progress (R171). -/
inductive AbandonCause where
  | framingError
  | lengthAbove48
  | newStart
  deriving DecidableEq, Repr

/-- The part's commands: the operations and events of spec/opcode_table.json. -/
inductive Instr where
  | powerOn (unit : Nat) (rateHigh : Bool)
  | loadingComplete (acknowledged : Bool)
  | minuteBoundary
  | timeValueCatchUp
  | crystalStop
  | crystalRestart
  | backupSupplyLow
  | selectNextTransaction (trunk : Nat)
  | replyReceived (trunk : Nat) (frame : List Byte)
  | replyWindowClose (trunk : Nat)
  | broadcastEnd (trunk : Nat)
  | abortTrailerSent (trunk : Nat)
  | actuationLimit (door : Nat)
  | waitCloseDue (door : Nat)
  | supplySample (trunk : Nat) (decivolts : Nat)
  | holdAsserted (trunk : Nat)
  | holdNegated (trunk : Nat)
  | secondMasterFrame (trunk : Nat) (frame : List Byte)
  | snoopedReply (trunk : Nat) (frame : List Byte)
  | fireAsserted
  | fireNegated
  | siteFrameTimeout
  | frameDiscarded
  | unknownFrameKind (tag : Nat) (kind : Nat)
  | unknownRequestCode (tag : Nat) (body : List Byte)
  | transmitComplete
  | doorCommandInvalid (tag : Nat) (body : List Byte)
  | release (c : DoorCmd)
  | lock (c : DoorCmd)
  | pulse (c : DoorCmd)
  | query (c : DoorCmd)
  | cancelOverride (c : DoorCmd)
  | readStatus (tag : Nat)
  | clearResync (tag : Nat)
  | linkReset (tag : Nat)
  | saveSettings (tag : Nat)
  | savePageWritten
  | saveAckTimeout
  | setTime (tag : Nat) (minute : Nat) (second : Nat)
  | readTime (tag : Nat)
  | loadDoor (tag : Nat) (req : LoadDoorReq)
  | readDoor (tag : Nat) (door : Nat)
  | listHeldOut (tag : Nat) (start : Nat)
  | ackAlarm (tag : Nat) (door : Nat) (kinds : Nat)
  | loadZone (tag : Nat) (req : LoadZoneReq)
  | readZone (tag : Nat) (zone : Nat)
  | zoneSweepPause (tag : Nat) (zone : Nat)
  | zoneSweepResume (tag : Nat) (zone : Nat)
  | zoneSweepCancel (tag : Nat) (zone : Nat)
  | zoneSweepResweep (tag : Nat) (zone : Nat)
  | loadClass (tag : Nat) (cls : Nat) (cost : Nat) (time : Nat)
  | readClass (tag : Nat) (cls : Nat)
  | loadWindow (tag : Nat) (req : LoadWindowReq)
  | deleteWindow (tag : Nat) (slot : Nat)
  | readWindow (tag : Nat) (slot : Nat)
  | selectPlan (tag : Nat) (plan : Nat)
  | setBatchGap (tag : Nat) (gap : Nat)
  | loadTrunk (tag : Nat) (req : LoadTrunkReq)
  | readTrunk (tag : Nat) (trunk : Nat)
  | readRoster (tag : Nat) (trunk : Nat) (start : Nat)
  | resetTrunk (tag : Nat) (trunk : Nat)
  | clearFire (tag : Nat)
  | dueArriving (trunk : Nat)
  | frameAbandoned (cause : AbandonCause)
  | powerCut
  deriving DecidableEq, Repr

end Sys2Proof
end

