-- ==== Sys2Proof/Decode.lean ====
section
/-!
DEFINITION. The words of the opcode table. The part has no instruction encoding: no row of the table gives a
command any bits, so no word spells a command. What arrives as bytes on the site link is read by
`Machine.siteCommand` (Machine/Wire.lean).
-/

namespace Sys2Proof

/-- The command that a word of the opcode table spells: none, for no row has bits. -/
def decodeTableWord (_nbits _w : Nat) : Option Instr := none

end Sys2Proof
end

