-- ==== Sys2Proof/Config.lean ====
section
/-!
DEFINITION. What the manual leaves open: free values, constants without a body, so that no proof can
rest on what they are.
-/

namespace Sys2Proof

/-- FREE VALUE (log 14). A timed override that runs out in the minute its zone changes state: "either
may be taken first" (R27). The answer says whether, at this tenths count, the evaluation is. -/
opaque Config.evaluationFirst : Tenths → Bool

/-- FREE VALUE (log 50). A LOCK, RELEASE or CANCEL-OVERRIDE changes the target of a HELD-OUT or DEFERRED door to one
its bolt already satisfies: R22 raises DOOR STATUS for that target change, and R158 raises no notice for a command
that needed no entry. The answer says whether, at this tenths count, the notice is raised. -/
opaque Config.noticeWithoutEntry : Tenths → Bool

/-- FREE VALUE (log 16). Which of the five bolts a STATUS reply's bolt code 5 to 7 is taken as; R186
gives no meaning for those codes. -/
opaque Config.reservedBolt : Nat → Fin 5

/-- FREE VALUE (log 16). Which of the three leaf states a STATUS reply's leaf code 3 is taken as. -/
opaque Config.reservedLeaf : Nat → Fin 3

/-- FREE VALUE (log 16). Which of the six results a STATUS reply's result code above 5 is taken as. -/
opaque Config.reservedResult : Nat → Fin 6

end Sys2Proof
end

