-- ==== Sys2Proof/Machine/State.lean ====
section
/-!
DEFINITION. Everything the part holds (R1, R3, R5, R25, R35, R39, R42, R61, R68, R100, R127, R137,
R174, R175, R182 to R185, R188), as plain data, and the state right after the power-on reset.

Three values the manual names are not stored a second time, because a rule gives each as a function
of what is stored (log 17): an entry's urgency and batch-member flag (R70), a zone's
batch-outstanding count (R64) and a trunk's reserved units (R100). They are computed in
Machine/Flags.lean.
-/

namespace Sys2Proof.Machine

/-! ### Doors (R1) -/

/-- The bolt a node reports (R1). -/
inductive Bolt where
  | thrown | withdrawn | moving | jammed | unknown
  deriving DecidableEq, Repr

/-- The leaf a node reports (R1). -/
inductive Leaf where
  | closed | opened | unknown
  deriving DecidableEq, Repr

/-- The two states a lock can be driven to (R1, R68). -/
inductive LockState where
  | locked | released
  deriving DecidableEq, Repr

/-- An effective target: LOCKED, RELEASED, or NONE for `none` (R1, R10). -/
abbrev Target := Option LockState

/-- Why a door is held out (R1). -/
inductive HeldReason where
  | doorOpen | jammed
  deriving DecidableEq, Repr

/-- A door's agreement; the held-out reason is present exactly while it is HELD-OUT (R16). -/
inductive Agreement where
  | inStep
  | queued
  | heldOut (reason : HeldReason)
  | deferred
  | unknown
  deriving DecidableEq, Repr

/-- The expiry of an override (R1, R150). -/
inductive Expiry where
  | untilTransition
  | minutes (left : Nat)
  deriving DecidableEq, Repr

/-- An override (R1, R150). -/
structure Override where
  action : LockState
  cls : Nat
  expiry : Expiry
  deriving DecidableEq, Repr

/-- A door's place on the trunks (R1). -/
structure Place where
  trunk : Nat
  node : Nat
  deriving DecidableEq, Repr

/-- The snapshot of a watched door (R160). -/
structure Snapshot where
  bolt : Bolt
  leaf : Leaf
  deriving DecidableEq, Repr

/-- The alarm set of a door (R163). -/
structure Alarms where
  forced : Bool
  keyed : Bool
  tamper : Bool
  deriving DecidableEq, Repr

/-- Who last commanded a door's node (R1, R134). -/
inductive Commander where
  | part | secondMaster
  deriving DecidableEq, Repr

/-- The configuration fields of a door record; `place` is present when the door is mapped (R1). -/
structure DoorConfig where
  place : Option Place
  zone : Nat
  lockClass : Nat
  egress : Bool
  guarded : Bool
  watched : Bool
  deriving DecidableEq, Repr

/-- A door record (R1). `guarded` is the manual's "protected". -/
structure Door extends DoorConfig where
  override : Option Override
  bolt : Bolt
  leaf : Leaf
  tamper : Bool
  target : Target
  agreement : Agreement
  snapshot : Option Snapshot
  alarms : Alarms
  lastBy : Commander
  deriving DecidableEq, Repr

/-! ### Zones and lock classes (R3, R5, R62) -/

/-- SECURE or OPEN: a default state, a window's action, or a scheduled state other than NONE. -/
inductive ZoneState where
  | secure | opened
  deriving DecidableEq, Repr

/-- The seven configuration fields of a zone record (R3). -/
structure ZoneConfig where
  defaultState : ZoneState
  rank : Nat
  floor : Nat
  step : Nat
  retry : Nat
  limit : Nat
  settle : Bool
  deriving DecidableEq, Repr

/-- The six tallies of a zone (R62). -/
structure Tallies where
  enqueued : Nat
  confirmed : Nat
  heldOut : Nat
  skipped : Nat
  unreachable : Nat
  already : Nat
  deriving DecidableEq, Repr

/-- A zone record: the Door Map's configuration, the Schedule Evaluator's scheduled state (`none` is
NONE), and the Sweep Queue's pause (the pause start, while the paused flag is set) and tallies. -/
structure Zone extends ZoneConfig where
  scheduled : Option ZoneState
  paused : Option Tenths
  tallies : Tallies
  deriving DecidableEq, Repr

/-- A lock class (R5). -/
structure LockClass where
  cost : Nat
  time : Nat
  deriving DecidableEq, Repr

/-! ### The week clock and the schedule (R25, R35, R42) -/

inductive ClockState where
  | unset | running
  deriving DecidableEq, Repr

inductive EvaluatorState where
  | waiting | active
  deriving DecidableEq, Repr

/-- A window (R35): `zone` is `none` for ALL, and `plans` has bit p set for plan p. -/
structure Window where
  zone : Option Nat
  plans : BitVec 8
  start : Nat
  length : Nat
  action : ZoneState
  priority : Nat
  single : Bool
  matched : Bool
  deriving DecidableEq, Repr

/-! ### The sweep queue (R68) -/

/-- What an entry's attempt commands (R68): `drive locked` is THROW, `drive released` is WITHDRAW. -/
inductive EntryTarget where
  | drive (l : LockState)
  | pulse (seconds : Nat)
  deriving DecidableEq, Repr

inductive Origin where
  | fire | override | pulse | correction | restore | schedule | resweep
  deriving DecidableEq, Repr

/-- What an ISSUED entry holds besides the common fields (R68). `grace` is set when its trunk comes
back from YIELDED with the actuation limit passed: the next follow-up result then decides it (R136). -/
structure Attempt where
  reservation : Nat
  issuedAt : Tenths
  limit : Tenths
  retarget : Option Target
  grace : Bool
  deriving DecidableEq, Repr

/-- An entry's state: PENDING, WAIT-CLOSE or ISSUED (R68). -/
inductive EntryPhase where
  | pending
  | waitClose
  | issued (a : Attempt)
  deriving DecidableEq, Repr

/-- A queue entry (R68). -/
structure Entry where
  door : Nat
  target : EntryTarget
  origin : Origin
  due : Tenths
  attempts : Nat
  phase : EntryPhase
  deriving DecidableEq, Repr

/-! ### The trunks (R100) -/

/-- A trunk's bit rate (R100). -/
inductive Rate where
  | r9600 | r19200 | r38400 | r76800
  deriving DecidableEq, Repr

inductive SharedMode where
  | unshared | twoLine | threeLine
  deriving DecidableEq, Repr

/-- The six configuration fields of a trunk (R100, R120); the poll periods are in seconds. -/
structure TrunkConfig where
  enabled : Bool
  budget : Nat
  level : Nat
  day : Nat
  night : Nat
  shared : SharedMode
  deriving DecidableEq, Repr

inductive TrunkState where
  | disabled | rollCall | running
  deriving DecidableEq, Repr

inductive Ownership where
  | reset | idleOwner | driving | yielded
  deriving DecidableEq, Repr

inductive Polarity where
  | undetermined | normal | inverted
  deriving DecidableEq, Repr

inductive Supply where
  | normal | low
  deriving DecidableEq, Repr

/-- A roster record with its poll dues (R100, R110, R114, R115). -/
structure Node where
  addr : Nat
  kind : Nat
  maxRate : Rate
  online : Bool
  missed : Nat
  routineDue : Option Tenths
  followUpDue : Option Tenths
  closeWatchDue : Option Tenths
  recoveryDue : Option Tenths
  deriving DecidableEq, Repr

/-- A frame the part sends on a trunk (R101). -/
inductive TrunkCommand where
  | roll (addr : Nat)
  | rate (r : Rate)
  | poll (addr : Nat)
  | throw (addr : Nat)
  | withdraw (addr : Nat)
  | pulse (addr : Nat) (seconds : Nat)
  deriving DecidableEq, Repr

/-- What a transaction was started for (R106, R107, R109, R112, R113). -/
inductive Purpose where
  | rateReset
  | rollCall
  | rollClose
  | followUp
  | closeWatch
  | routine
  | recoveryFirst
  | recoverySecond
  | recoveryRate
  | command (door : Nat)
  deriving DecidableEq, Repr

/-- Where a transaction stands (R102, R117): its frame is on the line, its reply window is open, or the
abort trailer is on the line. -/
inductive LinePhase where
  | frame | window | trailer
  deriving DecidableEq, Repr

/-- The transaction in progress on a trunk (R100, R102). `spoiled` is set once a frame in its reply
window has failed a test of R103. -/
structure Transaction where
  command : TrunkCommand
  purpose : Purpose
  rate : Rate
  phase : LinePhase
  spoiled : Bool
  deriving DecidableEq, Repr

/-- The step a roll call has reached (R106, R107, R109, R129): rate reset broadcast `k` of four, the
next address to be called, or the closing RATE broadcast. -/
inductive RollStep where
  | rateReset (k : Nat)
  | roll (addr : Nat)
  | close
  deriving DecidableEq, Repr

/-- A wait for the reply to a second-master frame that named node `addr`; `aged` is set once a tick has found it
(R133, log 26). -/
structure Snoop where
  addr : Nat
  aged : Bool
  deriving DecidableEq, Repr

/-- A Trunk Controller (R100, R127): `hold` is the level of its HOLD input, `request` of its REQ
output, `measured` is in steps of 0.1 V. `startCall` says that its roll call keeps the starting window
open (R147), `windowWait` that a reset abandoned a reply window that is still open (R106), and `snoops`
are the snooped replies awaited, one for each second-master frame to a node, oldest first (R133). -/
structure Trunk extends TrunkConfig where
  state : TrunkState
  ownership : Ownership
  polarity : Polarity
  rate : Rate
  roster : List Node
  supply : Supply
  measured : Nat
  request : Bool
  transaction : Option Transaction
  rollStep : RollStep
  startCall : Bool
  windowWait : Bool
  hold : Bool
  snoops : List Snoop
  deriving DecidableEq, Repr

/-! ### The site link (R173 to R186) -/

/-- One field of an answer's data at its width in bytes, or an absent optional field (R187). -/
inductive Field where
  | n1 (v : Nat)
  | n2 (v : Nat)
  | n4 (v : Nat)
  | absent (width : Nat)
  deriving DecidableEq, Repr

/-- The result codes of a door answer (R186). -/
inductive DoorResult where
  | accepted | noChange | starting | badField | unmapped | protected_ | fire | belowFloor
  | doorBusy | notLocked | noOverride | unreachable
  deriving DecidableEq, Repr

/-- The result codes of a management answer (R178). -/
inductive MgmtResult where
  | ok | busy | badRequest | badIndex | badValue | inUse | conflict | notNow | failed
  | fireStillActive
  deriving DecidableEq, Repr

/-- The door state a door answer carries (R145). -/
structure DoorView where
  bolt : Bolt
  leaf : Leaf
  target : Target
  agreement : Agreement
  override : Option Override
  deriving DecidableEq, Repr

/-- What the answer to a QUERY carries besides (R149). -/
structure QueryView where
  tamper : Bool
  alarms : Alarms
  lastBy : Commander
  deriving DecidableEq, Repr

/-- An answer, formed when its frame is taken (R174). -/
inductive Answer where
  | door (tag door action : Nat) (result : DoorResult) (view : Option DoorView)
      (query : Option QueryView)
  | mgmt (tag code : Nat) (result : MgmtResult) (data : List Field)
  deriving DecidableEq, Repr

inductive TrunkEvent where
  | rollCallDone | supplyLow | supplyNormal | yielded | owned
  deriving DecidableEq, Repr

inductive NodeEvent where
  | unmappedPresent | offline | online
  deriving DecidableEq, Repr

/-- A notice, with the facts as they stood when it was submitted (R182). -/
inductive Notice where
  | doorStatus (door : Nat) (bolt : Bolt) (leaf : Leaf) (target : Target) (agreement : Agreement)
      (alarms : Alarms) (lastBy : Commander)
  | zoneSettled (zone : Nat) (scheduled : Option ZoneState) (tallies : Tallies)
  | trunk (trunk : Nat) (event : TrunkEvent)
  | fire (latched : Bool) (count : Nat)
  | node (trunk addr : Nat) (event : NodeEvent)
  | clockUnset
  deriving DecidableEq, Repr

/-- A queued notice with its notice number (R182). -/
structure NumberedNotice where
  number : Nat
  notice : Notice
  deriving DecidableEq, Repr

/-- The site receiver (R171): no frame in progress, or the unescaped bytes of the frame in progress and
whether an escape byte has just been received. -/
inductive Assembly where
  | idle
  | inFrame (bytes : List Byte) (escaped : Bool)
  deriving DecidableEq, Repr

/-! ### Stored settings (R188 to R192) -/

/-- The stored image (R188). -/
structure Image where
  doors : Table DoorConfig 504
  zones : Table ZoneConfig 64
  classes : Table LockClass 8
  windows : Table (Option Window) 128
  plan : Nat
  gap : Nat
  trunks : Table TrunkConfig 8
  deriving DecidableEq, Repr

/-- The external memory: the valid marker, the image and the stored check (R188). -/
structure Memory where
  marker : Bool
  image : Image
  check : BitVec 16
  deriving DecidableEq, Repr

/-- The page a running save is writing (R191). -/
inductive SaveStep where
  | clearMarker
  | page (k : Nat)
  | setMarker
  deriving DecidableEq, Repr

/-- The Settings Loader's state (R188); a save keeps the tag its answer will echo (R174). -/
inductive Loader where
  | idle
  | loading
  | saving (tag : Nat) (step : SaveStep)
  deriving DecidableEq, Repr

/-! ### The machine -/

/-- Everything the part holds, and the queue of the commands that wait. -/
structure State where
  /-- VDD is present and the part has had its power-on reset (R28). -/
  powered : Bool
  /-- The 32.768 kHz crystal runs (R28). -/
  crystal : Bool
  minute : Nat
  second : Nat
  tenths : Nat
  backupValid : Bool
  clock : ClockState
  count : Tenths
  /-- The last evaluated minute E. -/
  evaluated : Option Nat
  evaluator : EvaluatorState
  windows : Table (Option Window) 128
  plan : Nat
  doors : Table Door 504
  zones : Table Zone 64
  classes : Table LockClass 8
  queue : List Entry
  gap : Nat
  trunks : Table Trunk 8
  /-- The debounced FIRE line is ASSERTED. -/
  fireLine : Bool
  /-- The fire latch is LATCHED. -/
  fireLatch : Bool
  fireCount : Nat
  unit : Nat
  rateHigh : Bool
  answers : List Answer
  /-- Answers of ended saves that found the answer list full (R174). -/
  saveAnswers : List Answer
  notices : List NumberedNotice
  noticeNumber : Nat
  resync : Bool
  /-- The bytes on the line of the frame being sent (R175). -/
  sending : Option (List Byte)
  /-- Answers sent in a row while a notice waited (R175). -/
  answersInRow : Nat
  receiver : Assembly
  loader : Loader
  memory : Memory
  /-- The commands that wait, first in first out. -/
  pending : List Instr
  deriving DecidableEq, Repr

/-- Why the machine stops. Raised only for a command that names a unit the part does not have. -/
inductive Fault where
  /-- Raised by an event on a trunk above 7 (R100: TC0 to TC7): there is no such pin or line. Safe. -/
  | noSuchTrunk
  /-- Raised by ACTUATION LIMIT or WAIT CLOSE DUE of a door above 503 (R1). Safe. -/
  | noSuchDoor
  deriving DecidableEq, Repr

/-- Why a command is not run. -/
inductive Refusal where
  /-- A row of the opcode table without a meaning; no arm of `exec` answers it. Safe. -/
  | notModelled (mnemonic : String)
  deriving DecidableEq, Repr

/-! ### Power-on values -/

def Alarms.empty : Alarms := ⟨false, false, false⟩

def Tallies.zero : Tallies := ⟨0, 0, 0, 0, 0, 0⟩

/-- R23: an unmapped door of zone 0 and lock class 0, all three flags clear. -/
def DoorConfig.unmapped : DoorConfig := ⟨none, 0, 0, false, false, false⟩

/-- The unmapped record of R1 over a configuration. -/
def Door.blank (c : DoorConfig) : Door :=
  { toDoorConfig := c, override := none, bolt := .unknown, leaf := .unknown, tamper := false,
    target := none, agreement := .inStep, snapshot := none, alarms := .empty, lastBy := .part }

/-- R3: the defaults of a zone. -/
def ZoneConfig.default_ : ZoneConfig := ⟨.secure, 0, 0, 0, 15, 3, false⟩

/-- R51, R97: a zone at power-on. -/
def Zone.blank (c : ZoneConfig) : Zone :=
  { toZoneConfig := c, scheduled := none, paused := none, tallies := .zero }

/-- R5: the defaults of a lock class. -/
def LockClass.default_ : LockClass := ⟨4, 20⟩

/-- R125: the defaults of a trunk. -/
def TrunkConfig.default_ : TrunkConfig := ⟨true, 40, 2, 5, 15, .unshared⟩

/-- R125: a trunk at power-on, its HOLD input at the level given. -/
def Trunk.blank (c : TrunkConfig) (hold : Bool) : Trunk :=
  { toTrunkConfig := c, state := .disabled, ownership := .reset, polarity := .undetermined,
    rate := .r9600, roster := [], supply := .normal, measured := 0, request := false,
    transaction := none, rollStep := .rateReset 0, startCall := false, windowWait := false,
    hold := hold, snoops := [] }

/-- R189: the defaults of every table. -/
def Image.defaults : Image :=
  { doors := .replicate 504 .unmapped, zones := .replicate 64 .default_,
    classes := .replicate 8 .default_, windows := .replicate 128 none, plan := 0, gap := 20,
    trunks := .replicate 8 .default_ }

/-- A memory that no save has written: its marker is clear (log 3). -/
def Memory.blank : Memory := ⟨false, .defaults, 0⟩

/-- The part at the end of the power-on reset of its first power-on: the backup validity indicator is
clear, so the clock is UNSET and its CLOCK notice is queued (R29, R185, R189); the straps read as
their pull-ups leave them (log 1 to 4). -/
def State.reset : State :=
  { powered := true, crystal := true, minute := 0, second := 0, tenths := 0, backupValid := false,
    clock := .unset, count := 0, evaluated := none, evaluator := .waiting,
    windows := .replicate 128 none, plan := 0, doors := .replicate 504 (.blank .unmapped),
    zones := .replicate 64 (.blank .default_), classes := .replicate 8 .default_, queue := [],
    gap := 20, trunks := .replicate 8 (.blank .default_ false), fireLine := false,
    fireLatch := false, fireCount := 0, unit := 15, rateHigh := true, answers := [],
    saveAnswers := [], notices := [⟨0, .clockUnset⟩], noticeNumber := 1, resync := true,
    sending := none, answersInRow := 0, receiver := .idle, loader := .loading,
    memory := .blank, pending := [] }

end Sys2Proof.Machine
end

