-- ==== Sys2Proof/Machine/Ops.lean ====
section
/-!
DEFINITION. The named operations on the part's state: reading and writing a record, comparing times,
submitting a notice and forming an answer.
-/

namespace Sys2Proof.Machine

/-! ### Records -/

/-- The record of door `d`; an unmapped one where there is no door `d`. -/
def State.door (s : State) (d : Nat) : Door := s.doors.getD d (.blank .unmapped)

/-- The record of zone `z`; a default one where there is no zone `z`. -/
def State.zone (s : State) (z : Nat) : Zone := s.zones.getD z (.blank .default_)

/-- Lock class `c`. -/
def State.lockClass (s : State) (c : Nat) : LockClass := s.classes.getD c .default_

/-- The Trunk Controller of trunk `t`. -/
def State.trunk (s : State) (t : Nat) : Trunk := s.trunks.getD t (.blank .default_ false)

def State.setDoor (d : Nat) (r : Door) (s : State) : State := { s with doors := s.doors.set d r }

def State.setZone (z : Nat) (r : Zone) (s : State) : State := { s with zones := s.zones.set z r }

def State.setTrunk (t : Nat) (r : Trunk) (s : State) : State :=
  { s with trunks := s.trunks.set t r }

def State.onDoor (d : Nat) (f : Door → Door) (s : State) : State := s.setDoor d (f (s.door d))

def State.onZone (z : Nat) (f : Zone → Zone) (s : State) : State := s.setZone z (f (s.zone z))

def State.onTrunk (t : Nat) (f : Trunk → Trunk) (s : State) : State :=
  s.setTrunk t (f (s.trunk t))

/-- The numbers of the mapped doors whose record satisfies `p`, ascending. -/
def State.doorsWhere (s : State) (p : Door → Bool) : List Nat :=
  (s.doors.rows.zipIdx.filter fun x => x.1.place.isSome && p x.1).map (·.2)

/-- The mapped door whose node is `a` on trunk `t` (R7: there is at most one). -/
def State.doorAt (s : State) (t a : Nat) : Option Nat :=
  s.doors.rows.findIdx? fun r => decide (r.place = some ⟨t, a⟩)

/-- `f` applied for each number of a list in turn. -/
def State.forEach (ns : List Nat) (f : Nat → State → State) (s : State) : State :=
  ns.foldl (fun s n => f n s) s

/-! ### Times (R26, R71) -/

/-- How far the tenths count lies after `t`, signed (R26). -/
def State.since (s : State) (t : Tenths) : Int := (s.count - t).toInt

/-- A due time has arrived (R71). -/
def State.arrived (s : State) (t : Tenths) : Bool := decide (0 ≤ s.since t)

/-- The tenths count `n` tenths from now. -/
def State.after (s : State) (n : Nat) : Tenths := s.count + BitVec.ofNat 32 n

/-- R26: a value more than 2^30 tenths behind the count is moved to 2^30 behind it. -/
def State.catchUp (s : State) (t : Tenths) : Tenths :=
  if s.since t > 1073741824 then s.count - 1073741824#32 else t

/-- Of a list of dues, the one that has arrived and came earliest; among equal dues the first of the
list (R78, R113). -/
def State.earliest {α : Type} (s : State) (dues : List (Tenths × α)) : Option (Tenths × α) :=
  (dues.filter fun x => s.arrived x.1).foldl
    (fun best x =>
      match best with
      | none => some x
      | some b => if s.since x.1 > s.since b.1 then some x else some b)
    none

/-! ### Notices (R182, R183) -/

/-- Submits a notice: it takes the notice number, and joins the queue or is discarded, which sets the
resync flag. -/
def State.submit (n : Notice) (s : State) : State :=
  if s.notices.length < 64 then
    { s with notices := s.notices ++ [⟨s.noticeNumber, n⟩], noticeNumber := (s.noticeNumber + 1) % 256 }
  else
    { s with resync := true, noticeNumber := (s.noticeNumber + 1) % 256 }

/-- The DOOR STATUS notice of a door as its record stands (R22, R182). -/
def State.doorStatus (d : Nat) (s : State) : State :=
  let r := s.door d
  s.submit (.doorStatus d r.bolt r.leaf r.target r.agreement r.alarms r.lastBy)

/-- A zone's tallies become final: the ZONE SETTLED notice, where the zone asks for it (R66). -/
def State.settled (z : Nat) (s : State) : State :=
  let r := s.zone z
  if r.settle then s.submit (.zoneSettled z r.scheduled r.tallies) else s

/-! ### Answers (R173, R174, R176, R189) -/

/-- An answer joins the answer list. -/
def State.answer (a : Answer) (s : State) : State := { s with answers := s.answers ++ [a] }

/-- A frame whose answer would be a ninth is discarded unanswered and its owner does not act (R174). An
unpowered part takes no frame (R28). -/
def State.takeFrame (f : State → State) (s : State) : State :=
  if s.powered && decide (s.answers.length < 8) then f s else s

/-- When a management request is answered BUSY without being dispatched: never, while loading, or while
loading or saving (R176, R189). -/
inductive Gate where
  | always | notLoading | notSaving
  deriving DecidableEq, Repr

def State.gated (g : Gate) (s : State) : Bool :=
  match g, s.loader with
  | .always, _ => false
  | _, .idle => false
  | _, .loading => true
  | .notLoading, .saving _ _ => false
  | .notSaving, .saving _ _ => true

/-- What a request's owner does: the state it leaves, the result code and the answer's data. -/
structure Served where
  state : State
  result : MgmtResult
  data : List Field

/-- A refusal changes nothing but the answer list (R178). -/
def refuse (r : MgmtResult) (s : State) : Served := ⟨s, r, []⟩

/-- The management request of code `code`, carried out by its owner and answered from the state after
it (R173, R174). -/
def State.serve (g : Gate) (tag code : Nat) (owner : State → Served) (s : State) : State :=
  s.takeFrame fun s =>
    let o := if s.gated g then refuse .busy s else owner s
    o.state.answer (.mgmt tag code o.result o.data)

/-- An event on trunk `t` of a powered part; there are eight trunks (R100). -/
def State.trunkEvent (t : Nat) (f : State → State) (s : State) :
    Host.Outcome State Fault Refusal :=
  if t < 8 then .next (if s.powered then f s else s) else .fault .noSuchTrunk

/-- An event of a powered part. -/
def State.event (f : State → State) (s : State) : Host.Outcome State Fault Refusal :=
  .next (if s.powered then f s else s)

end Sys2Proof.Machine
end

