-- ==== Sys2Proof/Machine/Flags.lean ====
section
/-!
DEFINITION. What the rules read off the state: whether a door is in step, a zone's batch-outstanding
count, a trunk's reserved units and effective budget, whether an entry is eligible, whether the
starting window is open.
-/

namespace Sys2Proof.Machine

/-! ### Doors -/

/-- The bolt that satisfies a target (R16, R72). -/
def LockState.bolt : LockState → Bolt
  | .locked => .thrown
  | .released => .withdrawn

/-- A bolt satisfies a target; every bolt satisfies NONE (R16). -/
def Bolt.satisfies (b : Bolt) : Target → Bool
  | none => true
  | some l => decide (b = l.bolt)

/-- A door is in step (R16). -/
def Door.isInStep (r : Door) : Bool := r.bolt.satisfies r.target

def Agreement.isHeldOut : Agreement → Bool
  | .heldOut _ => true
  | _ => false

/-- HELD-OUT or DEFERRED: the doors a retry is for (R15, R53). -/
def Agreement.isPutAside : Agreement → Bool
  | .heldOut _ => true
  | .deferred => true
  | _ => false

/-- The override runs out by the countdown (R154). -/
def Door.isTimed (r : Door) : Bool :=
  match r.override with
  | some o => decide (o.expiry ≠ .untilTransition)
  | none => false

/-! ### Entries (R70) -/

/-- The entry of door `d` in the sweep queue (R69: there is at most one). -/
def State.entryOf (s : State) (d : Nat) : Option Entry :=
  s.queue.find? fun e => decide (e.door = d)

def Origin.urgency : Origin → Nat
  | .fire => 0
  | .override => 1
  | .pulse => 1
  | .correction => 2
  | .restore => 2
  | .schedule => 3
  | .resweep => 3

/-- The origins that batch formation gives, whose entries are batch members (R64, R70). -/
def Origin.isBatch : Origin → Bool
  | .restore => true
  | .schedule => true
  | .resweep => true
  | _ => false

/-- Entries of these origins are held by a pause of their zone and dropped by a cancel (R70, R93, R95). -/
def Origin.isHeldByPause : Origin → Bool
  | .correction => true
  | .restore => true
  | .schedule => true
  | .resweep => true
  | _ => false

/-- The removal of an entry of this origin with its door IN-STEP is reported by DOOR STATUS (R22). -/
def Origin.isReported : Origin → Bool
  | .schedule => false
  | .restore => false
  | _ => true

def Entry.isIssued (e : Entry) : Bool :=
  match e.phase with
  | .issued _ => true
  | _ => false

/-- The attempt limit an entry is measured against (R70, R90). -/
def State.attemptLimit (s : State) (e : Entry) : Nat :=
  if e.origin = .fire then 15 else (s.zone (s.door e.door).zone).limit

/-- The batch-outstanding count of a zone (R64). -/
def State.outstanding (s : State) (z : Nat) : Nat :=
  (s.queue.filter fun e => e.origin.isBatch && decide ((s.door e.door).zone = z)).length

/-! ### Trunks -/

/-- The trunk of a door, if it is mapped. -/
def Door.isOn (r : Door) (t : Nat) : Bool :=
  match r.place with
  | some p => decide (p.trunk = t)
  | none => false

def Entry.reserved (e : Entry) : Nat :=
  match e.phase with
  | .issued a => a.reservation
  | _ => 0

/-- The units a trunk has reserved: the sum of the reservations of its ISSUED entries (R80, R100). -/
def State.reserved (s : State) (t : Nat) : Nat :=
  ((s.queue.filter fun e => (s.door e.door).isOn t).map Entry.reserved).sum

/-- A trunk's effective budget (R79, R119). -/
def Trunk.effectiveBudget (r : Trunk) : Nat :=
  match r.supply with
  | .normal => r.budget
  | .low => max 1 (r.budget / 2)

/-- The HOLD input as the trunk's shared mode lets it be read (R127). -/
def Trunk.isHeld (r : Trunk) : Bool := r.hold && decide (r.shared ≠ .unshared)

/-- The roster record of address `a`. -/
def Trunk.node (r : Trunk) (a : Nat) : Option Node := r.roster.find? fun n => decide (n.addr = a)

/-- The node of address `a` is ONLINE in the roster. -/
def Trunk.isOnline (r : Trunk) (a : Nat) : Bool :=
  match r.node a with
  | some n => n.online
  | none => false

/-- A door's node is ONLINE in its trunk's roster (R19, R77). -/
def State.isReachable (s : State) (r : Door) : Bool :=
  match r.place with
  | some p => (s.trunk p.trunk).isOnline p.node
  | none => false

/-- An entry is a THROW or a PULSE: a command that the fire latch keeps from an egress door (R77). -/
def EntryTarget.isBarredByFire : EntryTarget → Bool
  | .drive .released => false
  | _ => true

/-- An entry is eligible on trunk `t` (R77). -/
def State.isEligible (s : State) (t : Nat) (e : Entry) : Bool :=
  let r := s.door e.door
  decide (e.phase = .pending) && s.arrived e.due && r.isOn t && s.isReachable r &&
  decide ((s.trunk t).state = .running) &&
  ((s.zone r.zone).paused.isNone || !e.origin.isHeldByPause) &&
  !(e.target.isBarredByFire && r.egress && s.fireLatch)

/-- An entry of cost `c` fits trunk `t` (R79): the lone issue, or within the effective budget. -/
def State.fits (s : State) (t c : Nat) : Bool :=
  decide (s.reserved t = 0) || decide (c + s.reserved t ≤ (s.trunk t).effectiveBudget)

/-- A due of the list has arrived. -/
def State.anyArrived (s : State) (dues : List (Option Tenths)) : Bool :=
  dues.any fun d =>
    match d with
    | some t => s.arrived t
    | none => false

/-- A trunk has work waiting (R130). -/
def State.hasWork (s : State) (t : Nat) : Bool :=
  let r := s.trunk t
  match r.state with
  | .disabled => false
  | .rollCall => true
  | .running =>
    (r.roster.any fun n =>
      s.anyArrived [n.followUpDue, n.closeWatchDue, n.routineDue, n.recoveryDue]) ||
    s.queue.any (s.isEligible t)

/-- The level R130 gives the REQ output. -/
def State.requestLevel (s : State) (t : Nat) : Bool :=
  decide ((s.trunk t).shared = .threeLine) && decide ((s.trunk t).ownership = .yielded) &&
  s.hasWork t

/-- The starting window is open (R147): tables are being loaded, or a trunk that entered ROLL-CALL through
the power-on or a link reset has not left it. -/
def State.isStarting (s : State) : Bool :=
  decide (s.loader = .loading) || s.trunks.rows.any fun r => r.startCall

/-- A SAVE SETTINGS runs, or the tables are being loaded (R179, R189). -/
def State.isLoaderBusy (s : State) : Bool := decide (s.loader ≠ .idle)

end Sys2Proof.Machine
end

