-- ==== Sys2Proof/Machine/Queue.lean ====
section
/-!
DEFINITION. The Sweep Queue (chapter 05): creating, changing and removing an entry, what each reports to
the Door Map, hand-offs, and the end of an attempt.

The operations here submit no notice: `State.delivered` compares the state before and after a whole
delivery and submits the DOOR STATUS and ZONE SETTLED notices that it calls for.
-/

namespace Sys2Proof.Machine

/-! ### The door's side of a report (R20, R160, R161) -/

/-- The agreement changes; the snapshot is cleared when it leaves IN-STEP (R161). -/
def Door.withAgreement (a : Agreement) (r : Door) : Door :=
  { r with agreement := a, snapshot := if a = .inStep then r.snapshot else none }

/-- Takes a snapshot when the conditions of R160 hold. -/
def Door.takeSnapshot (r : Door) : Door :=
  if r.place.isSome && r.watched && r.snapshot.isNone && decide (r.agreement = .inStep) &&
      decide (r.target = some .locked) && decide (r.bolt = .thrown) && decide (r.leaf = .closed) then
    { r with snapshot := some ⟨.thrown, .closed⟩ }
  else r

/-! ### Entries in the list (R69, R114) -/

/-- The poll dues that an entry's state gives rise to stay; the others are removed (R114). -/
def Node.keepDues (e : Option Entry) (n : Node) : Node :=
  { n with
    followUpDue := if (e.map Entry.isIssued).getD false then n.followUpDue else none,
    closeWatchDue :=
      if (e.map fun x => decide (x.phase = .waitClose)).getD false then n.closeWatchDue else none }

/-- The roster record of address `a` rewritten. -/
def Trunk.onNode (a : Nat) (f : Node → Node) (r : Trunk) : Trunk :=
  { r with roster := r.roster.map fun n => if n.addr = a then f n else n }

/-- The roster record of a door's node rewritten. -/
def State.onNodeOf (d : Nat) (f : Node → Node) (s : State) : State :=
  match (s.door d).place with
  | some p => s.onTrunk p.trunk (Trunk.onNode p.node f)
  | none => s

/-- The entry of a door is rewritten in its place. -/
def State.putEntry (e : Entry) (s : State) : State :=
  State.onNodeOf e.door (Node.keepDues (some e))
    { s with queue := s.queue.map fun x => if x.door = e.door then e else x }

/-- The entry of a door leaves the list. -/
def State.dropEntry (d : Nat) (s : State) : State :=
  State.onNodeOf d (Node.keepDues none)
    { s with queue := s.queue.filter fun x => decide (x.door ≠ d) }

/-- A new entry joins the tail, and its door becomes QUEUED (R20, R69, R72). -/
def State.createEntry (e : Entry) (s : State) : State :=
  State.onDoor e.door (Door.withAgreement .queued) { s with queue := s.queue ++ [e] }

/-! ### Removal (R20, R63) -/

/-- The end state that a removal reports (R20). -/
inductive EndState where
  | confirmed | matched | targetNone
  | heldOut (reason : HeldReason)
  | cancelled | offline | trunkReset
  deriving DecidableEq, Repr

/-- The agreement an end state gives a door (R20). A confirmation gives IN-STEP whatever bolt the door last
reported (log 42). -/
def EndState.agreement (r : Door) : EndState → Agreement
  | .confirmed => .inStep
  | .matched => .inStep
  | .targetNone => .inStep
  | .heldOut reason => .heldOut reason
  | .cancelled => if r.isInStep then .inStep else .deferred
  | .offline => .unknown
  | .trunkReset => .unknown

/-- The tally that the end of a batch member adds to (R63). -/
inductive TallyKind where
  | enqueued | confirmed | heldOut | skipped | unreachable | already
  deriving DecidableEq, Repr

def Tallies.add (k : TallyKind) (t : Tallies) : Tallies :=
  match k with
  | .enqueued => { t with enqueued := t.enqueued + 1 }
  | .confirmed => { t with confirmed := t.confirmed + 1 }
  | .heldOut => { t with heldOut := t.heldOut + 1 }
  | .skipped => { t with skipped := t.skipped + 1 }
  | .unreachable => { t with unreachable := t.unreachable + 1 }
  | .already => { t with already := t.already + 1 }

/-- One more in a zone's tally. -/
def State.tally (z : Nat) (k : TallyKind) (s : State) : State :=
  s.onZone z fun r => { r with tallies := r.tallies.add k }

/-- The end of a door's entry is tallied if it is a batch member (R63). -/
def State.tallyEnd (d : Nat) (k : Option TallyKind) (s : State) : State :=
  match k, s.entryOf d with
  | some k, some e => if e.origin.isBatch then s.tally (s.door d).zone k else s
  | _, _ => s

/-- A door's entry is removed and reported to the Door Map with an end state (R20). -/
def State.removeEntry (d : Nat) (e : EndState) (k : Option TallyKind) (s : State) : State :=
  ((s.tallyEnd d k).dropEntry d).onDoor d fun r =>
    (r.withAgreement (e.agreement r)).takeSnapshot

/-! ### Hand-offs (R72 to R74) -/

/-- The retarget that a hand-off leaves on an ISSUED entry (R74). -/
def EntryTarget.retargetTo (t : Target) (e : EntryTarget) : Option Target :=
  match t, e with
  | some l, .drive l' => if l = l' then none else some (some l)
  | some l, .pulse _ => some (some l)
  | none, _ => some none

/-- A hand-off of target `t` for door `d` reaches the queue (R72, R73, R74). -/
def State.handOff (d : Nat) (t : Target) (o : Origin) (due : Tenths) (s : State) : State :=
  match s.entryOf d with
  | none =>
    match t with
    | none => s
    | some l =>
      if (s.door d).bolt.satisfies t then s
      else s.createEntry ⟨d, .drive l, o, due, 0, .pending⟩
  | some e =>
    match e.phase with
    | .issued a =>
      s.putEntry { e with origin := o, phase := .issued { a with retarget := e.target.retargetTo t } }
    | _ =>
      match t with
      | none => s.removeEntry d .targetNone none
      | some l =>
        if (s.door d).bolt.satisfies t then s.removeEntry d .matched none
        else s.putEntry ⟨d, .drive l, o, due, 0, .pending⟩

/-! ### The end of an attempt (R82 to R88) -/

/-- How an attempt ends. -/
inductive AttemptEnd where
  /-- The target is reached, or the reply is ALREADY (R82, R84). -/
  | confirmed
  /-- REFUSED-OPEN to a THROW (R82). -/
  | refusedOpen
  /-- REFUSED-JAM, or what R83 takes as it. -/
  | refusedJam
  /-- NODE-BUSY, a missed reply, or a result of NONE (R82, R83). -/
  | turnedAway
  /-- A JAMMED follow-up, or the actuation limit of a THROW or WITHDRAW (R84, R85). -/
  | jam
  /-- The actuation limit of a PULSE (R86). -/
  | pulseOver
  /-- The command frame was ended with the abort trailer (R88). -/
  | aborted
  deriving DecidableEq, Repr

/-- A refusal is counted as an attempt; every other end leaves the count (R82, R84). -/
def AttemptEnd.counted : AttemptEnd → Nat
  | .refusedOpen => 1
  | .refusedJam => 1
  | _ => 0

/-- Sets the close-watch due of a door's node 20 tenths from now (R114). -/
def State.armCloseWatch (d : Nat) (s : State) : State :=
  s.onNodeOf d fun n => { n with closeWatchDue := some (s.after 20) }

/-- Sets the follow-up due of a door's node 5 tenths from now (R114). -/
def State.armFollowUp (d : Nat) (s : State) : State :=
  s.onNodeOf d fun n => { n with followUpDue := some (s.after 5) }

/-- The entry goes on below its limit, in the state given after the zone's retry interval, or its door is
held out at it (R82, R84, R90). -/
def State.retryOrHold (e : Entry) (attempts : Nat) (reason : HeldReason) (p : EntryPhase) (s : State) :
    State :=
  if s.attemptLimit e ≤ attempts then
    s.removeEntry e.door (.heldOut reason) (some .heldOut)
  else
    s.putEntry { e with
      attempts := attempts, phase := p,
      due := s.after (10 * (s.zone (s.door e.door).zone).retry) }

/-- An end's own effect on the entry and the door, when no retarget is present. -/
def State.endPlain (e : Entry) (k : AttemptEnd) (s : State) : State :=
  let attempts := e.attempts + k.counted
  match k with
  | .confirmed => s.removeEntry e.door .confirmed (some .confirmed)
  | .refusedOpen =>
    let s' := s.retryOrHold e attempts .doorOpen .waitClose
    if (s'.entryOf e.door).isSome then s'.armCloseWatch e.door else s'
  | .refusedJam => s.retryOrHold e attempts .jammed .pending
  | .turnedAway => s.putEntry { e with phase := .pending, due := s.after 10 }
  | .jam => s.retryOrHold e attempts .jammed .pending
  | .pulseOver =>
    s.removeEntry e.door
      (.heldOut (if (s.door e.door).bolt = .withdrawn then .doorOpen else .jammed)) (some .heldOut)
  | .aborted => s.putEntry { e with phase := .pending }

/-- The retarget of an entry applied in place of its attempt's own end (R87). -/
def State.applyRetarget (e : Entry) (t : Target) (s : State) : State :=
  match t with
  | none => s.removeEntry e.door .targetNone none
  | some l =>
    if (s.door e.door).bolt.satisfies t then s.removeEntry e.door .matched (some .confirmed)
    else s.putEntry ⟨e.door, .drive l, e.origin, s.count, 0, .pending⟩

/-- The attempt of an ISSUED entry ends: its reservation is returned, since only an ISSUED entry holds one,
and the end's effect or the retarget follows. -/
def State.endAttempt (d : Nat) (k : AttemptEnd) (s : State) : State :=
  match s.entryOf d with
  | some e =>
    match e.phase with
    | .issued a =>
      match a.retarget with
      | some t => s.applyRetarget e t
      | none => s.endPlain e k
    | _ => s
  | none => s

/-! ### The request line (R130) -/

/-- The REQ output of trunk `t` takes the level R130 gives it. -/
def State.driveRequest (t : Nat) (s : State) : State :=
  s.onTrunk t fun r => { r with request := s.requestLevel t }

/-- The REQ output of a door's trunk, after a delivery that reaches that door alone. -/
def State.driveRequestOf (d : Nat) (s : State) : State :=
  match (s.door d).place with
  | some p => s.driveRequest p.trunk
  | none => s

/-- The REQ outputs of the eight trunks, after a delivery that may reach the doors of any of them. -/
def State.driveRequests (s : State) : State := s.forEach (List.range 8) State.driveRequest

/-! ### Notices of a delivery (R22, R66) -/

/-- A change of agreement that DOOR STATUS reports, given the origin of the entry that was there (R22). -/
def agreementReported (before after : Agreement) (origin : Option Origin) : Bool :=
  match after with
  | .heldOut _ => !before.isHeldOut
  | .deferred => decide (before ≠ .deferred)
  | .inStep =>
    match before with
    | .inStep => false
    | .queued => (origin.map Origin.isReported).getD false
    | _ => true
  | _ => false

/-- The DOOR STATUS notice of a delivery to door `d` that led from `before` to `s`, raised for a change of
agreement or for the cause `extra`. -/
def State.reportDoor (s : State) (d : Nat) (before : State) (extra : Bool) : State :=
  if extra || agreementReported (before.door d).agreement (s.door d).agreement
      ((before.entryOf d).map Entry.origin) then s.doorStatus d
  else s

/-- The zone settles if its batch-outstanding count fell to 0 since `before` (R66). -/
def State.settleZone (s : State) (z : Nat) (before : State) : State :=
  if 0 < before.outstanding z ∧ s.outstanding z = 0 then s.settled z else s

/-- The notices of a delivery to door `d` that led from `before` to `s`: DOOR STATUS, then ZONE SETTLED
(log 15). -/
def State.delivered (s : State) (d : Nat) (before : State) (extra : Bool) : State :=
  (s.reportDoor d before extra).settleZone (s.door d).zone before

/-- Every zone whose count fell to 0 since `before` settles. -/
def State.settleZones (s : State) (before : State) : State :=
  s.forEach (List.range 64) fun z s => s.settleZone z before

end Sys2Proof.Machine
end

