-- ==== Sys2Proof/Machine/Wire.lean ====
section
/-!
DEFINITION. The layouts of the site link and of the trunks (R101, R171, R173, R186, R187): the CRC, the
escaping, the bytes of every answer and notice, the command that a received site frame spells, and the
reading of a frame heard on a trunk.
-/

namespace Sys2Proof.Machine

/-- The low byte of a number. -/
def u8 (n : Nat) : Byte := BitVec.ofNat 8 n

/-- Two bytes, most significant first (R186). -/
def u16 (n : Nat) : List Byte := [u8 (n / 256), u8 n]

/-- Four bytes, most significant first. -/
def u32 (n : Nat) : List Byte := u16 (n / 65536) ++ u16 n

/-! ### The check (R171) -/

/-- One bit of the CRC register, polynomial x^16 + x^12 + x^5 + 1. -/
def crcBit (r : BitVec 16) : BitVec 16 := if r.msb then (r <<< 1) ^^^ 0x1021#16 else r <<< 1

/-- One byte, fed in most significant bit first. -/
def crcByte (r : BitVec 16) (b : Byte) : BitVec 16 :=
  Nat.repeat crcBit 8 (r ^^^ (b.zeroExtend 16 <<< 8))

/-- The CRC-16 of R171, from a register of 0xFFFF. -/
def crc16 (bs : List Byte) : BitVec 16 := bs.foldl crcByte 0xFFFF#16

/-- Bytes followed by their check, high byte first. -/
def withCheck (bs : List Byte) : List Byte := bs ++ u16 (crc16 bs).toNat

/-- The bytes in front of a correct check. -/
def checked (bs : List Byte) : Option (List Byte) :=
  let head := bs.take (bs.length - 2)
  if 2 ≤ bs.length ∧ withCheck head = bs then some head else none

/-! ### The site envelope (R171, R172, R186) -/

/-- A byte as it is sent: 0x7E and 0x7D are escaped. -/
def escape (b : Byte) : List Byte :=
  if b = 0x7E#8 ∨ b = 0x7D#8 then [0x7D#8, b ^^^ 0x20#8] else [b]

/-- The bytes on the line of a site frame. -/
def siteLine (unit kind tag : Nat) (body : List Byte) : List Byte :=
  0x7E#8 :: (withCheck ([u8 unit, u8 kind, u8 tag, u8 body.length] ++ body)).flatMap escape

/-- A byte joins the frame in progress: the frame is complete, abandoned for its length, or goes on. -/
def Assembly.push (bytes : List Byte) (b : Byte) : Assembly × Option (List Byte) :=
  let bs := bytes ++ [b]
  match bs[3]? with
  | none => (.inFrame bs false, none)
  | some len =>
    if 48 < len.toNat then (.idle, none)
    else if bs.length = len.toNat + 6 then (.idle, some bs)
    else (.inFrame bs false, none)

/-- One byte received (R171): the receiver after it, and the frame it completes. -/
def Assembly.feed (a : Assembly) (b : Byte) : Assembly × Option (List Byte) :=
  if b = 0x7E#8 then (.inFrame [] false, none)
  else
    match a with
    | .idle => (.idle, none)
    | .inFrame bs true => Assembly.push bs (b ^^^ 0x20#8)
    | .inFrame bs false => if b = 0x7D#8 then (.inFrame bs true, none) else Assembly.push bs b

/-! ### Characters (R101, R170) -/

/-- The rate of the site link in bits a second, by the RATE strap (R170). -/
def siteRate (rateHigh : Bool) : Nat := if rateHigh then 115200 else 57600

/-- A byte as the ten bits that carry it on the site link and on a trunk: a start bit, the eight data bits from the
least significant, a stop bit (R101, R170). R101 gives the data bits of a trunk no order: that it is the site link's
is the model's choice (log 53). -/
def characterOf (b : Byte) : List Bool := false :: (List.range 8).map b.getLsbD ++ [true]

/-- Eight data bits, the least significant first, as a byte. -/
def byteOf (bits : List Bool) : Byte := bits.foldr (fun b v => (v <<< 1) ||| BitVec.ofNat 8 b.toNat) 0#8

/-- The byte of ten sampled bits; `none` is a framing error, a stop bit that reads low. -/
def readCharacter (bits : List Bool) : Option Byte :=
  if bits.getD 9 false then some (byteOf ((bits.drop 1).take 8)) else none

/-- Ten sampled bits received (R170, R171): a byte of the line, or a framing error, which abandons the frame in
progress. -/
def Assembly.receive (a : Assembly) (bits : List Bool) : Assembly × Option (List Byte) :=
  match readCharacter bits with
  | some b => a.feed b
  | none => (.idle, none)

/-- The frames that a run of received bytes completes, from an idle receiver. -/
def siteFrames (line : List Byte) : List (List Byte) :=
  (line.foldl
    (fun (acc : Assembly × List (List Byte)) b =>
      let r := acc.1.feed b
      (r.1, acc.2 ++ r.2.toList))
    (.idle, [])).2

/-- The kind, tag and body of a complete frame with a correct check and the part's unit number; `none`
when the frame is discarded (R171, R172). -/
def siteContent (unit : Nat) (frame : List Byte) : Option (Nat × Nat × List Byte) :=
  match checked frame with
  | some (u :: kind :: tag :: _ :: body) =>
    if u.toNat = unit then some (kind.toNat, tag.toNat, body) else none
  | _ => none

/-- A door command body (R186). -/
def doorCommandOf (tag : Nat) (body : List Byte) : Instr :=
  match body.map BitVec.toNat with
  | [d1, d0, a, c, t1, t0, p] =>
    let cmd : DoorCmd := ⟨tag, d1 * 256 + d0, c, t1 * 256 + t0, p⟩
    match a with
    | 1 => .release cmd
    | 2 => .lock cmd
    | 3 => .pulse cmd
    | 4 => .query cmd
    | 5 => .cancelOverride cmd
    | _ => .doorCommandInvalid tag body
  | _ => .doorCommandInvalid tag body

/-- A management request body: the code of R177 and the operands at the widths of R187. -/
def requestOf (tag : Nat) (body : List Byte) : Instr :=
  match body.map BitVec.toNat with
  | [0x01] => .readStatus tag
  | [0x02] => .clearResync tag
  | [0x03] => .linkReset tag
  | [0x04] => .saveSettings tag
  | [0x10, m1, m0, s] => .setTime tag (m1 * 256 + m0) s
  | [0x11] => .readTime tag
  | [0x20, d1, d0, m, t, n, z, c, e, g, w] => .loadDoor tag ⟨d1 * 256 + d0, m, t, n, z, c, e, g, w⟩
  | [0x21, d1, d0] => .readDoor tag (d1 * 256 + d0)
  | [0x22, d1, d0] => .listHeldOut tag (d1 * 256 + d0)
  | [0x23, d1, d0, k] => .ackAlarm tag (d1 * 256 + d0) k
  | [0x28, z, d, r, f, st, ri, l, n] => .loadZone tag ⟨z, d, r, f, st, ri, l, n⟩
  | [0x29, z] => .readZone tag z
  | [0x2A, z, 0] => .zoneSweepPause tag z
  | [0x2A, z, 1] => .zoneSweepResume tag z
  | [0x2A, z, 2] => .zoneSweepCancel tag z
  | [0x2A, z, 3] => .zoneSweepResweep tag z
  | [0x30, c, k, a] => .loadClass tag c k a
  | [0x31, c] => .readClass tag c
  | [0x38, w, z, p, s1, s0, l1, l0, a, pr, o] =>
    .loadWindow tag ⟨w, z, p, s1 * 256 + s0, l1 * 256 + l0, a, pr, o⟩
  | [0x39, w] => .deleteWindow tag w
  | [0x3A, w] => .readWindow tag w
  | [0x3B, p] => .selectPlan tag p
  | [0x40, g] => .setBatchGap tag g
  | [0x48, t, e, b, l, d, n, m] => .loadTrunk tag ⟨t, e, b, l, d, n, m⟩
  | [0x49, t] => .readTrunk tag t
  | [0x4A, t, a] => .readRoster tag t a
  | [0x4B, t] => .resetTrunk tag t
  | [0x50] => .clearFire tag
  | _ => .unknownRequestCode tag body

/-- The command that a taken frame is (R173). -/
def commandOf (kind tag : Nat) (body : List Byte) : Instr :=
  match kind with
  | 1 => doorCommandOf tag body
  | 3 => requestOf tag body
  | k => .unknownFrameKind tag k

/-- The command that a complete frame received by unit `unit` stands for; `none` when it is discarded. -/
def siteCommand (unit : Nat) (frame : List Byte) : Option Instr :=
  (siteContent unit frame).map fun c => commandOf c.1 c.2.1 c.2.2

/-- A door command body (R186). -/
def doorBody (action : Nat) (c : DoorCmd) : List Byte :=
  u16 c.door ++ [u8 action, u8 c.cls] ++ u16 c.duration ++ [u8 c.pulse]

/-- The frame of a command that is a site frame: its kind, tag and body; `none` for an event. -/
def frameOf (i : Instr) : Option (Nat × Nat × List Byte) :=
  match i with
  | .release c => some (1, c.tag, doorBody 1 c)
  | .lock c => some (1, c.tag, doorBody 2 c)
  | .pulse c => some (1, c.tag, doorBody 3 c)
  | .query c => some (1, c.tag, doorBody 4 c)
  | .cancelOverride c => some (1, c.tag, doorBody 5 c)
  | .doorCommandInvalid tag body => some (1, tag, body)
  | .unknownFrameKind tag kind => some (kind, tag, [])
  | .unknownRequestCode tag body => some (3, tag, body)
  | .readStatus tag => some (3, tag, [0x01#8])
  | .clearResync tag => some (3, tag, [0x02#8])
  | .linkReset tag => some (3, tag, [0x03#8])
  | .saveSettings tag => some (3, tag, [0x04#8])
  | .setTime tag m s => some (3, tag, 0x10#8 :: (u16 m ++ [u8 s]))
  | .readTime tag => some (3, tag, [0x11#8])
  | .loadDoor tag r =>
    some (3, tag, 0x20#8 :: (u16 r.door ++ [u8 r.mapped, u8 r.trunk, u8 r.node, u8 r.zone,
      u8 r.lockClass, u8 r.egress, u8 r.guarded, u8 r.watched]))
  | .readDoor tag d => some (3, tag, 0x21#8 :: u16 d)
  | .listHeldOut tag d => some (3, tag, 0x22#8 :: u16 d)
  | .ackAlarm tag d k => some (3, tag, 0x23#8 :: (u16 d ++ [u8 k]))
  | .loadZone tag r =>
    some (3, tag, [0x28#8, u8 r.zone, u8 r.defaultState, u8 r.rank, u8 r.floor, u8 r.step,
      u8 r.retry, u8 r.limit, u8 r.settle])
  | .readZone tag z => some (3, tag, [0x29#8, u8 z])
  | .zoneSweepPause tag z => some (3, tag, [0x2A#8, u8 z, 0#8])
  | .zoneSweepResume tag z => some (3, tag, [0x2A#8, u8 z, 1#8])
  | .zoneSweepCancel tag z => some (3, tag, [0x2A#8, u8 z, 2#8])
  | .zoneSweepResweep tag z => some (3, tag, [0x2A#8, u8 z, 3#8])
  | .loadClass tag c k a => some (3, tag, [0x30#8, u8 c, u8 k, u8 a])
  | .readClass tag c => some (3, tag, [0x31#8, u8 c])
  | .loadWindow tag r =>
    some (3, tag, [0x38#8, u8 r.slot, u8 r.zone, u8 r.plans] ++ u16 r.start ++ u16 r.length ++
      [u8 r.action, u8 r.priority, u8 r.single])
  | .deleteWindow tag w => some (3, tag, [0x39#8, u8 w])
  | .readWindow tag w => some (3, tag, [0x3A#8, u8 w])
  | .selectPlan tag p => some (3, tag, [0x3B#8, u8 p])
  | .setBatchGap tag g => some (3, tag, [0x40#8, u8 g])
  | .loadTrunk tag r =>
    some (3, tag, [0x48#8, u8 r.trunk, u8 r.enabled, u8 r.budget, u8 r.level, u8 r.day, u8 r.night,
      u8 r.shared])
  | .readTrunk tag t => some (3, tag, [0x49#8, u8 t])
  | .readRoster tag t a => some (3, tag, [0x4A#8, u8 t, u8 a])
  | .resetTrunk tag t => some (3, tag, [0x4B#8, u8 t])
  | .clearFire tag => some (3, tag, [0x50#8])
  | .powerOn _ _ | .loadingComplete _ | .minuteBoundary | .timeValueCatchUp | .crystalStop
  | .crystalRestart | .backupSupplyLow | .selectNextTransaction _ | .replyReceived _ _
  | .replyWindowClose _ | .broadcastEnd _ | .abortTrailerSent _ | .actuationLimit _
  | .waitCloseDue _ | .supplySample _ _ | .holdAsserted _ | .holdNegated _
  | .secondMasterFrame _ _ | .snoopedReply _ _ | .fireAsserted | .fireNegated | .siteFrameTimeout
  | .frameDiscarded | .transmitComplete | .savePageWritten | .saveAckTimeout | .dueArriving _
  | .frameAbandoned _ | .powerCut => none

/-! ### Codes (R186, R187) -/

def Bolt.code : Bolt → Nat
  | .thrown => 0 | .withdrawn => 1 | .moving => 2 | .jammed => 3 | .unknown => 4

def Leaf.code : Leaf → Nat
  | .closed => 0 | .opened => 1 | .unknown => 2

def Target.code : Target → Nat
  | some .locked => 0 | some .released => 1 | none => 2

def Agreement.code : Agreement → Nat
  | .inStep => 0 | .queued => 1 | .heldOut _ => 2 | .deferred => 3 | .unknown => 4

/-- The held-out reason's code, 0 when there is none. -/
def Agreement.reasonCode : Agreement → Nat
  | .heldOut .doorOpen => 1 | .heldOut .jammed => 2 | _ => 0

def Alarms.code (a : Alarms) : Nat := a.forced.toNat + 2 * a.keyed.toNat + 4 * a.tamper.toNat

def Commander.code : Commander → Nat
  | .part => 0 | .secondMaster => 1

/-- Bolt and leaf in one byte. -/
def boltLeafCode (b : Bolt) (l : Leaf) : Nat := b.code * 16 + l.code

/-- Target and agreement in one byte. -/
def targetAgreementCode (t : Target) (a : Agreement) : Nat := Target.code t * 16 + a.code

/-- The override byte: present, action, class. -/
def overrideCode : Option Override → Nat
  | none => 0
  | some o => 128 + (if o.action = .released then 64 else 0) + o.cls % 4

/-- The override's expiry: 0 for UNTIL-TRANSITION and when there is none. -/
def expiryCode : Option Override → Nat
  | none => 0
  | some o =>
    match o.expiry with
    | .untilTransition => 0
    | .minutes n => n

def ZoneState.code : ZoneState → Nat
  | .secure => 0 | .opened => 1

/-- A scheduled state: 0 SECURE, 1 OPEN, 2 NONE. -/
def scheduledCode : Option ZoneState → Nat
  | none => 2
  | some z => z.code

def ClockState.code : ClockState → Nat
  | .unset => 0 | .running => 1

def EvaluatorState.code : EvaluatorState → Nat
  | .waiting => 0 | .active => 1

def Rate.code : Rate → Nat
  | .r9600 => 0 | .r19200 => 1 | .r38400 => 2 | .r76800 => 3

/-- The rate of a code; any other value is taken as 9600. -/
def Rate.ofCode : Nat → Rate
  | 1 => .r19200 | 2 => .r38400 | 3 => .r76800 | _ => .r9600

def SharedMode.code : SharedMode → Nat
  | .unshared => 0 | .twoLine => 1 | .threeLine => 2

def TrunkState.code : TrunkState → Nat
  | .disabled => 0 | .rollCall => 1 | .running => 2

def Ownership.code : Ownership → Nat
  | .reset => 0 | .idleOwner => 1 | .driving => 2 | .yielded => 3

def Polarity.code : Polarity → Nat
  | .undetermined => 0 | .normal => 1 | .inverted => 2

def Supply.code : Supply → Nat
  | .normal => 0 | .low => 1

def DoorResult.code : DoorResult → Nat
  | .accepted => 0 | .noChange => 1 | .starting => 2 | .badField => 3 | .unmapped => 4
  | .protected_ => 5 | .fire => 6 | .belowFloor => 7 | .doorBusy => 8 | .notLocked => 9
  | .noOverride => 10 | .unreachable => 11

def MgmtResult.code : MgmtResult → Nat
  | .ok => 0 | .busy => 1 | .badRequest => 2 | .badIndex => 3 | .badValue => 4 | .inUse => 5
  | .conflict => 6 | .notNow => 7 | .failed => 8 | .fireStillActive => 9

def TrunkEvent.code : TrunkEvent → Nat
  | .rollCallDone => 0 | .supplyLow => 1 | .supplyNormal => 2 | .yielded => 3 | .owned => 4

def NodeEvent.code : NodeEvent → Nat
  | .unmappedPresent => 0 | .offline => 1 | .online => 2

/-- The FIRE line state by its place in R137: 0 ASSERTED, 1 NEGATED. -/
def lineCode (asserted : Bool) : Nat := if asserted then 0 else 1

/-- The latch by its place in R137: 0 CLEAR, 1 LATCHED. -/
def latchCode (latched : Bool) : Nat := if latched then 1 else 0

/-- The backup validity by its place in R25: 0 valid, 1 not valid. -/
def validityCode (valid : Bool) : Nat := if valid then 0 else 1

/-- The request line by its place in R100: 0 raised, 1 low. -/
def requestCode (raised : Bool) : Nat := if raised then 0 else 1

/-! ### What the part sends (R174, R182, R186) -/

def Field.bytes : Field → List Byte
  | .n1 v => [u8 v]
  | .n2 v => u16 v
  | .n4 v => u32 v
  | .absent w => List.replicate w 0xFF#8

/-- The body of a door answer: 4 bytes, 9 with door state, 15 for a QUERY. -/
def doorAnswerBody (door action : Nat) (result : DoorResult) (view : Option DoorView)
    (query : Option QueryView) : List Byte :=
  u16 door ++ [u8 action, u8 result.code] ++
  (match view with
   | none => []
   | some v =>
     [u8 (boltLeafCode v.bolt v.leaf), u8 (targetAgreementCode v.target v.agreement),
      u8 (overrideCode v.override)] ++ u16 (expiryCode v.override) ++
     (match query with
      | none => []
      | some q =>
        [u8 q.tamper.toNat, u8 v.agreement.reasonCode, u8 q.alarms.code, u8 q.lastBy.code, 0#8, 0#8]))

/-- The line bytes of an answer: kind 0x02 DOOR ANSWER or 0x04 MGMT ANSWER. -/
def Answer.line (unit : Nat) : Answer → List Byte
  | .door tag d action result view query =>
    siteLine unit 2 tag (doorAnswerBody d action result view query)
  | .mgmt tag code result data =>
    siteLine unit 4 tag ([u8 code, u8 result.code] ++ data.flatMap Field.bytes)

/-- The body of a notice (R182, R186). -/
def Notice.body : Notice → List Byte
  | .doorStatus d b l t a al by_ =>
    [0x01#8] ++ u16 d ++ [u8 (boltLeafCode b l), u8 (targetAgreementCode t a), u8 a.reasonCode,
      u8 al.code, u8 by_.code]
  | .zoneSettled z sc t =>
    [0x02#8, u8 z, u8 (scheduledCode sc)] ++ u16 t.enqueued ++ u16 t.confirmed ++ u16 t.heldOut ++
      u16 t.skipped ++ u16 t.unreachable ++ u16 t.already
  | .trunk t e => [0x03#8, u8 t, u8 e.code]
  | .fire latched n => [0x04#8, u8 (if latched then 0 else 1)] ++ u16 n
  | .node t a e => [0x05#8, u8 t, u8 a, u8 e.code]
  | .clockUnset => [0x06#8, 0#8]

/-- The line bytes of a notice, its number in the tag field: kind 0x05 NOTICE. -/
def NumberedNotice.line (unit : Nat) (n : NumberedNotice) : List Byte :=
  siteLine unit 5 n.number n.notice.body

/-! ### Trunk frames (R101, R103, R133, R186) -/

/-- The result a node reports in a STATUS reply (R101). -/
inductive NodeResult where
  | none_ | started | already | refusedOpen | refusedJam | nodeBusy
  deriving DecidableEq, Repr

/-- What a STATUS reply carries (R101). -/
structure Status where
  kind : Nat
  maxRate : Rate
  bolt : Bolt
  leaf : Leaf
  tamper : Bool
  result : NodeResult
  deriving DecidableEq, Repr

/-- A frame heard on a trunk: whether its sync byte was 0x58, and what it carries. -/
structure TrunkFrame where
  inverted : Bool
  addr : Nat
  kind : Nat
  body : List Byte
  deriving DecidableEq, Repr

def NodeResult.code : NodeResult → Nat
  | .none_ => 0 | .started => 1 | .already => 2 | .refusedOpen => 3 | .refusedJam => 4
  | .nodeBusy => 5

def Bolt.ofFin (f : Fin 5) : Bolt :=
  match f.val with
  | 0 => .thrown | 1 => .withdrawn | 2 => .moving | 3 => .jammed | _ => .unknown

def Leaf.ofFin (f : Fin 3) : Leaf :=
  match f.val with
  | 0 => .closed | 1 => .opened | _ => .unknown

def NodeResult.ofFin (f : Fin 6) : NodeResult :=
  match f.val with
  | 0 => .none_ | 1 => .started | 2 => .already | 3 => .refusedOpen | 4 => .refusedJam
  | _ => .nodeBusy

/-- The bolt of a code; a code without a meaning is taken as a free one (log 16). -/
def Bolt.ofCode (c : Nat) : Bolt :=
  Bolt.ofFin (if h : c < 5 then ⟨c, h⟩ else Config.reservedBolt c)

def Leaf.ofCode (c : Nat) : Leaf :=
  Leaf.ofFin (if h : c < 3 then ⟨c, h⟩ else Config.reservedLeaf c)

def NodeResult.ofCode (c : Nat) : NodeResult :=
  NodeResult.ofFin (if h : c < 6 then ⟨c, h⟩ else Config.reservedResult c)

/-- A trunk frame as the part transmits it, sync byte 0xA7. -/
def trunkLine (addr kind : Nat) (body : List Byte) : List Byte :=
  0xA7#8 :: withCheck ([u8 addr, u8 kind, u8 body.length] ++ body)

/-- The bytes of a frame the part sends on a trunk. -/
def TrunkCommand.line : TrunkCommand → List Byte
  | .roll a => trunkLine a 1 []
  | .rate r => trunkLine 0 2 [u8 r.code]
  | .poll a => trunkLine a 3 []
  | .throw a => trunkLine a 4 []
  | .withdraw a => trunkLine a 5 []
  | .pulse a n => trunkLine a 6 [u8 n]

/-- The abort trailer (R117). -/
def abortTrailer : List Byte := [0x7F#8, 0x7F#8]

/-- A frame stopped after `sent` of its bytes: the abort trailer in place of the rest (R117, R186). -/
def TrunkCommand.cut (sent : Nat) (c : TrunkCommand) : List Byte := c.line.take sent ++ abortTrailer

/-- The node a command addresses; `none` for a broadcast. -/
def TrunkCommand.addr : TrunkCommand → Option Nat
  | .roll a => some a
  | .rate _ => none
  | .poll a => some a
  | .throw a => some a
  | .withdraw a => some a
  | .pulse a _ => some a

/-- The body of a STATUS reply. -/
def Status.body (r : Status) : List Byte :=
  [u8 r.kind, u8 r.maxRate.code, u8 (r.bolt.code * 32 + r.leaf.code * 8 + r.tamper.toNat),
    u8 r.result.code]

/-- The bytes of a STATUS reply from node `a`, read inverted on a crossed pair. -/
def Status.line (inverted : Bool) (a : Nat) (r : Status) : List Byte :=
  let bs := trunkLine a 0x80 r.body
  if inverted then bs.map (~~~ ·) else bs

/-- A STATUS reply body read (R186); one of another length is no reply (log 45). -/
def Status.ofBody (body : List Byte) : Option Status :=
  match body.map BitVec.toNat with
  | [k, r, b, x] =>
    some ⟨k, Rate.ofCode r, Bolt.ofCode (b / 32), Leaf.ofCode (b / 8 % 4), decide (b % 2 = 1),
      NodeResult.ofCode x⟩
  | _ => none

/-- The frame that the heard bytes are: a sync byte of 0xA7, or one of 0x58 with the whole frame read
inverted, a body of the stated length and a correct check; `none` when it cannot be taken (R103). -/
def readTrunkFrame (heard : List Byte) : Option TrunkFrame :=
  match heard with
  | [] => none
  | sync :: rest =>
    if sync = 0xA7#8 ∨ sync = 0x58#8 then
      let inverted := decide (sync = 0x58#8)
      match checked (if inverted then rest.map (~~~ ·) else rest) with
      | some (a :: k :: len :: body) =>
        if body.length = len.toNat then some ⟨inverted, a.toNat, k.toNat, body⟩ else none
      | _ => none
    else none

/-- The receiver accepts a sync byte: either while the polarity is UNDETERMINED, and the one of the
polarity from then on (R103). -/
def Polarity.accepts (p : Polarity) (inverted : Bool) : Bool :=
  match p with
  | .undetermined => true
  | .normal => !inverted
  | .inverted => inverted

/-- The STATUS reply of node `a` that the receiver accepts from the bytes heard, and whether it was
inverted (R103). -/
def acceptStatus (p : Polarity) (a : Nat) (heard : List Byte) : Option (Bool × Status) :=
  match readTrunkFrame heard with
  | some f =>
    if p.accepts f.inverted ∧ f.kind = 0x80 ∧ f.addr = a then
      (Status.ofBody f.body).map fun r => (f.inverted, r)
    else none
  | none => none

end Sys2Proof.Machine
end

