-- ==== Sys2Proof/Machine/DoorMap.lean ====
section
/-!
DEFINITION. The Door Map (chapters 01 and 09): the effective target and what a change of it leads to, and
what an observation does to a door's record, its agreement and its entry.
-/

namespace Sys2Proof.Machine

/-! ### The effective target (R10, R11) -/

/-- The target a zone's scheduled state asks for (R10, case 3). -/
def targetOfScheduled : Option ZoneState → Target
  | some .secure => some .locked
  | some .opened => some .released
  | none => none

/-- The effective target of a door record as the part stands (R1, R10). -/
def State.targetFor (s : State) (r : Door) : Target :=
  if r.place.isNone then none
  else if s.fireLatch && r.egress then some .released
  else
    match r.override with
    | some o => some o.action
    | none => targetOfScheduled (s.zone r.zone).scheduled

/-- The target is stored; the snapshot is cleared when it is not LOCKED (R161). -/
def Door.withTarget (t : Target) (r : Door) : Door :=
  { r with target := t, snapshot := if t = some .locked then r.snapshot else none }

/-- A target change finds a HELD-OUT or DEFERRED door in step with the new target (R18). -/
def Door.isFreedBy (t : Target) (r : Door) : Bool :=
  decide (t ≠ r.target) && r.agreement.isPutAside && r.bolt.satisfies t

/-- A HELD-OUT or DEFERRED door whose bolt already satisfies its target: a LOCK or RELEASE, a RESWEEP or the fire
hand-off makes it IN-STEP although its target stays (R18). -/
def Door.isIdleAside (r : Door) : Bool := r.agreement.isPutAside && r.isInStep

/-- Such a door becomes IN-STEP; the change has neither an observation nor a target change as its cause, so no
notice is raised (R22, log 48). -/
def State.liftDoor (d : Nat) (s : State) : State :=
  s.onDoor d fun r => (r.withAgreement .inStep).takeSnapshot

/-- The end of a delivery to door `d` that led from `before`: the snapshot, then the notices (R22, R160). -/
def State.concluded (s : State) (d : Nat) (before : State) (extra : Bool) : State :=
  (s.onDoor d Door.takeSnapshot).delivered d before extra

/-- What follows for door `d`, whose record was `r`, when its target becomes `t`: nothing for an UNKNOWN door;
IN-STEP for one that the change frees; otherwise a change, or with `again` the target anyhow, is handed with
origin `o`, due now (R11, R13, R15, R18). -/
def State.handTarget (d : Nat) (r : Door) (t : Target) (o : Origin) (again : Bool) (s : State) : State :=
  if r.agreement = .unknown then s
  else if r.isFreedBy t then s.onDoor d (Door.withAgreement .inStep)
  else if t ≠ r.target ∨ again = true then s.handOff d t o s.count
  else s

/-- R11, R13, R15: the target of door `d` is recomputed, stored and handed; with `again`, one that stays brings a
HELD-OUT or DEFERRED door back IN-STEP where its bolt already satisfies it (R18). -/
def State.retarget (d : Nat) (o : Origin) (again : Bool) (s : State) : State :=
  if (s.door d).place.isNone then s
  else if again = true ∧ s.targetFor (s.door d) = (s.door d).target ∧ (s.door d).isIdleAside = true then
    s.liftDoor d
  else
    ((s.onDoor d (Door.withTarget (s.targetFor (s.door d)))).handTarget d (s.door d)
      (s.targetFor (s.door d)) o again).concluded d s false

/-- The target of door `d` is recomputed and stored, and the door becomes IN-STEP, all without a notice. -/
def State.freeQuietly (d : Nat) (s : State) : State :=
  s.onDoor d fun r => ((r.withTarget (s.targetFor r)).withAgreement .inStep).takeSnapshot

/-- A LOCK, RELEASE or CANCEL-OVERRIDE has written the override of door `d`: its target is recomputed, stored and
handed with origin OVERRIDE (R15). A HELD-OUT or DEFERRED door already in step with its new target needs no entry
and becomes IN-STEP (R18, R151): R22 raises a DOOR STATUS notice for that, R158 raises none, and a free value decides
(log 50). -/
def State.commandTarget (d : Nat) (again : Bool) (s : State) : State :=
  if (s.door d).isFreedBy (s.targetFor (s.door d)) && !Config.noticeWithoutEntry s.count then s.freeQuietly d
  else s.retarget d .override again

/-- A door that the change of its target to `t` frees becomes IN-STEP (R18). -/
def State.freeDoor (d : Nat) (r : Door) (t : Target) (s : State) : State :=
  if r.isFreedBy t then s.onDoor d (Door.withAgreement .inStep) else s

/-- R12, R14: the target of door `d` is recomputed and stored, and handed to batch formation by the
caller. -/
def State.storeTarget (d : Nat) (s : State) : State :=
  ((s.onDoor d (Door.withTarget (s.targetFor (s.door d)))).freeDoor d (s.door d)
    (s.targetFor (s.door d))).concluded d s false

/-! ### Observations (R2, R17 to R19, R76, R84) -/

/-- Where a reply comes from: a roll call, a command of the part with the result it reports, or any other
transaction, the second master's among them. -/
inductive Source where
  | rollCall
  | command (result : NodeResult)
  | other
  deriving DecidableEq, Repr

/-- The reply's bolt, leaf and tamper are written into the record (R2). -/
def Door.observed (o : Status) (r : Door) : Door :=
  { r with bolt := o.bolt, leaf := o.leaf, tamper := o.tamper }

/-- R164: a tamper report adds TAMPER to the alarms of a watched door. -/
def Door.noteTamper (r : Door) : Door :=
  if r.watched && r.tamper then { r with alarms := { r.alarms with tamper := true } } else r

/-- R162: the comparison of an observation, already written, with the snapshot of a watched door. -/
def Door.supervise (r : Door) : Door :=
  if r.watched && r.snapshot.isSome then
    match r.bolt, r.leaf with
    | .thrown, .closed => r
    | .thrown, .opened => { r with alarms := { r.alarms with forced := true }, snapshot := none }
    | .withdrawn, _ => { r with alarms := { r.alarms with keyed := true }, snapshot := none }
    | _, _ => { r with snapshot := none }
  else r

/-- R17: a mismatch on a door that has no entry. -/
def State.mismatch (d : Nat) (s : State) : State :=
  let r := s.door d
  if r.target = some .locked ∧ r.leaf = .opened then
    s.onDoor d (Door.withAgreement (.heldOut .doorOpen))
  else s.handOff d r.target .correction s.count

/-- R82, R83: the reply to the command of an ISSUED entry. -/
def State.commandReply (e : Entry) (result : NodeResult) (s : State) : State :=
  match result with
  | .started => s.putEntry { e with attempts := e.attempts + 1 }
  | .already => s.endAttempt e.door .confirmed
  | .refusedOpen =>
    s.endAttempt e.door (if e.target = .drive .locked then .refusedOpen else .refusedJam)
  | .refusedJam => s.endAttempt e.door .refusedJam
  | .nodeBusy => s.endAttempt e.door .turnedAway
  | .none_ => s.endAttempt e.door .turnedAway

/-- A follow-up result shows the target reached (R84, R86). -/
def State.isReached (s : State) (e : Entry) (a : Attempt) : Bool :=
  match e.target with
  | .drive l => decide ((s.door e.door).bolt = l.bolt)
  | .pulse n =>
    decide ((s.door e.door).bolt = .thrown) && s.arrived (a.issuedAt + BitVec.ofNat 32 (10 * n))

/-- How an attempt ends when its actuation limit decides it (R85, R86). -/
def EntryTarget.limitEnd : EntryTarget → AttemptEnd
  | .drive _ => .jam
  | .pulse _ => .pulseOver

/-- The trunk of a door is YIELDED. -/
def State.isYielded (s : State) (r : Door) : Bool :=
  match r.place with
  | some p => decide ((s.trunk p.trunk).ownership = .yielded)
  | none => false

/-- R84, R86, R136: a follow-up result for an ISSUED entry. -/
def State.followUpResult (e : Entry) (a : Attempt) (s : State) : State :=
  let r := s.door e.door
  if s.isReached e a then s.endAttempt e.door .confirmed
  else if r.bolt = .jammed then s.endAttempt e.door .jam
  else if a.grace = true ∧ s.isYielded r = false then s.endAttempt e.door e.target.limitEnd
  else s

/-- R76: an observation of a QUEUED door reaches its entry. -/
def State.entryObserved (d : Nat) (src : Source) (s : State) : State :=
  match s.entryOf d with
  | none => s
  | some e =>
    let r := s.door d
    match e.phase with
    | .pending =>
      match e.target with
      | .drive l =>
        if r.bolt.satisfies (some l) then s.removeEntry d .matched (some .already) else s
      | .pulse _ => s
    | .waitClose =>
      if r.bolt = .thrown then s.removeEntry d .matched (some .already)
      else if r.leaf = .closed then s.putEntry { e with phase := .pending, due := s.count }
      else s
    | .issued a =>
      match src with
      | .command result => s.commandReply e result
      | _ => s.followUpResult e a

/-- A HELD-OUT DOOR-OPEN door is seen with its leaf closed while its target is LOCKED (R18). -/
def Door.isLateClose (r : Door) : Bool :=
  decide (r.agreement = .heldOut .doorOpen) && decide (r.target = some .locked) &&
  decide (r.leaf = .closed) && !r.isInStep

/-- R17, R18, R19: the agreement is judged against the observation, already written. -/
def State.judge (d : Nat) (src : Source) (s : State) : State :=
  let r := s.door d
  match r.agreement with
  | .queued => s.entryObserved d src
  | .inStep => if r.isInStep then s else s.mismatch d
  | .unknown =>
    if s.isReachable r then
      if r.isInStep then s.onDoor d (Door.withAgreement .inStep) else s.mismatch d
    else s
  | .heldOut _ =>
    if r.isInStep then s.onDoor d (Door.withAgreement .inStep)
    else if r.isLateClose then s.handOff d r.target .correction s.count
    else s
  | .deferred => if r.isInStep then s.onDoor d (Door.withAgreement .inStep) else s

/-- The leaf went from CLOSED to OPEN or back. -/
def leafChanged : Leaf → Leaf → Bool
  | .closed, .opened => true
  | .opened, .closed => true
  | _, _ => false

/-- The door's entry is WAIT-CLOSE. -/
def State.isWaitingClose (s : State) (d : Nat) : Bool :=
  ((s.entryOf d).map fun e => decide (e.phase = .waitClose)).getD false

/-- A leaf change that DOOR STATUS reports (R116, R165): of a door that, as the observation arrives, is
HELD-OUT, waits for its leaf to close, or holds a snapshot; a late close is not reported. -/
def State.leafReported (s : State) (d : Nat) (after : Door) : Bool :=
  let r := s.door d
  leafChanged r.leaf after.leaf &&
  ((r.agreement.isHeldOut && !after.isLateClose) || s.isWaitingClose d || r.snapshot.isSome)

/-- A door record with an observation written, compared with the snapshot and checked for tamper (R2, R162,
R164). -/
def Door.seen (o : Status) (r : Door) : Door := ((r.observed o).supervise).noteTamper

/-- An observation of mapped door `d` (R2, R116, R162, R164, R165). At most one DOOR STATUS notice is
submitted for it; a change of agreement seen in a roll-call reply raises none (R22). -/
def State.observe (d : Nat) (o : Status) (src : Source) (s : State) : State :=
  let r := (s.door d).seen o
  let s1 := (s.setDoor d r).judge d src
  let alarmed := decide (r.alarms ≠ (s.door d).alarms)
  match src with
  | .rollCall =>
    let s2 := s1.onDoor d Door.takeSnapshot
    if alarmed then s2.doorStatus d else s2
  | _ => s1.concluded d s (alarmed || s.leafReported d r)

/-- A reply from node `a` of trunk `t` is an observation of the mapped door there, if there is one. -/
def State.observeAt (t a : Nat) (o : Status) (src : Source) (s : State) : State :=
  match s.doorAt t a with
  | some d => s.observe d o src
  | none => s

end Sys2Proof.Machine
end

