-- ==== Sys2Proof/Machine/Batch.lean ====
section
/-!
DEFINITION. Sweep batches (chapter 04): which doors take positions, the stagger, the hand-off of the
positioned doors, the tallies and the settling of the batch's zones.
-/

namespace Sys2Proof.Machine

/-- The four kinds of batch (R53, R54). -/
inductive BatchKind where
  | secure | opened | restore | resweep
  deriving DecidableEq, Repr

/-- The origin of a batch's entries (R53). -/
def BatchKind.origin : BatchKind → Origin
  | .secure => .schedule
  | .opened => .schedule
  | .restore => .restore
  | .resweep => .resweep

/-- The batches whose zones go in descending rank (R54). -/
def BatchKind.isDescending : BatchKind → Bool
  | .secure => false
  | .opened => true
  | .restore => true
  | .resweep => false

/-- The class of a door in a batch (R55, R56, R57): `released` is a RESWEEP's egress door under the fire
latch, skipped and handed as FIRE; `untargeted` is a restoration's door whose target fell to NONE, counted
already, its entry removed. -/
inductive Standing where
  | skipped | released | unreachable | already | untargeted | positioned
  deriving DecidableEq, Repr

/-- The class of door `d` in a batch of kind `k`, by the first row that applies. -/
def State.standing (s : State) (k : BatchKind) (d : Nat) : Standing :=
  let r := s.door d
  let e := s.entryOf d
  let settledAlready := e.isNone && r.isInStep
  let underFire := s.fireLatch && r.egress
  match k with
  | .restore =>
    if r.agreement = .unknown then .unreachable
    else if r.target = none then .untargeted
    else if settledAlready then .already
    else .positioned
  | .resweep =>
    if underFire then .released else if settledAlready then .already else .positioned
  | _ =>
    if r.isTimed then .skipped
    else if underFire && decide (k = .secure) then .skipped
    else if e.map Entry.origin = some .fire then .skipped
    else if r.agreement = .unknown then .unreachable
    else if settledAlready then .already
    else .positioned

/-- The tally that a door's class adds to at formation; a positioned door's is decided at its hand-off. -/
def Standing.tally : Standing → Option TallyKind
  | .skipped => some .skipped
  | .released => some .skipped
  | .unreachable => some .unreachable
  | .already => some .already
  | .untargeted => some .already
  | .positioned => none

/-! ### The stagger (R54, R58) -/

/-- R58: every sum and product saturates at 65,535 tenths. -/
def saturate (n : Nat) : Nat := min n 65535

/-- The doors of a zone with their offsets, the zone starting at `start`. -/
def zoneOffsets (start step : Nat) (doors : List Nat) : List (Nat × Nat) :=
  doors.mapIdx fun i d => (d, saturate (start + saturate (i * step)))

/-- The start offset of the next zone. -/
def nextStart (start step n gap : Nat) : Nat :=
  saturate (saturate (start + saturate (n * step)) + gap)

/-- The offsets of a batch: each zone's step and positioned doors, in order. -/
def batchOffsets (gap : Nat) : Nat → List (Nat × List Nat) → List (Nat × Nat)
  | _, [] => []
  | start, (step, doors) :: rest =>
    zoneOffsets start step doors ++ batchOffsets gap (nextStart start step doors.length gap) rest

/-- Zone `z` goes in front of the zones of a list that it precedes in rank order; a zone of equal rank
already there, which has a lower number, stays in front (R54). -/
def insertZone (descending : Bool) (rank : Nat → Nat) (z : Nat) : List Nat → List Nat
  | [] => [z]
  | y :: ys =>
    if (if descending then rank y < rank z else rank z < rank y) then z :: y :: ys
    else y :: insertZone descending rank z ys

/-- Zones, given in ascending number, in rank order (R54). -/
def orderZones (descending : Bool) (rank : Nat → Nat) (zs : List Nat) : List Nat :=
  zs.foldl (fun acc z => insertZone descending rank z acc) []

/-! ### Formation (R53, R59, R62, R66) -/

/-- A positioned door is handed with its target, the batch's origin and its due, and tallied (R59). -/
def State.handPosition (o : Origin) (d : Nat) (due : Tenths) (s : State) : State :=
  let s1 := s.handOff d (s.door d).target o due
  let s2 := s1.tally (s.door d).zone (if (s1.entryOf d).isSome then .enqueued else .already)
  s2.reportDoor d s false

/-- The class of a door is tallied (R55, R56, R57). -/
def State.tallyStanding (st : Nat → Standing) (d : Nat) (s : State) : State :=
  match (st d).tally with
  | some k => s.tally (s.door d).zone k
  | none => s

/-- The tallies of a batch's zones start from 0 (R62). -/
def State.clearTallies (zones : List Nat) (s : State) : State :=
  s.forEach zones fun z s => s.onZone z fun r => { r with tallies := .zero }

/-- The doors of one class, of those considered. -/
def State.classed (s : State) (k : BatchKind) (doors : List Nat) (p : Standing) : List Nat :=
  doors.filter fun d => decide (s.standing k d = p)

/-- The positioned doors of zone `z`, ascending (R54). -/
def State.positionsIn (s : State) (k : BatchKind) (doors : List Nat) (z : Nat) : List Nat :=
  (s.classed k doors .positioned).filter fun d => decide ((s.door d).zone = z)

/-- The positioned doors of a batch in batch order, each with its offset (R54, R58). -/
def State.places (s : State) (k : BatchKind) (zones doors : List Nat) : List (Nat × Nat) :=
  batchOffsets s.gap 0
    ((orderZones k.isDescending (fun z => (s.zone z).rank)
      (zones.filter fun z => !(s.positionsIn k doors z).isEmpty)).map
        fun z => ((s.zone z).step, s.positionsIn k doors z))

/-- Doors handed one by one, outside the positions, with a target and an origin, due at `due` (R57). -/
def State.handEach (ds : List Nat) (t : Target) (o : Origin) (due : Tenths) (s : State) : State :=
  s.forEach ds fun d s => (s.handOff d t o due).reportDoor d s false

/-- The entry of a restoration's door whose target fell to NONE is removed, ISSUED or not (R56, log 49). -/
def State.dropUntargeted (d : Nat) (s : State) : State :=
  if (s.entryOf d).isSome then (s.removeEntry d .targetNone none).reportDoor d s false else s

/-- A RESWEEP makes a HELD-OUT or DEFERRED door without an entry IN-STEP where its bolt already satisfies its
target (R18, R57). -/
def State.liftIdle (k : BatchKind) (d : Nat) (s : State) : State :=
  if k = .resweep ∧ (s.door d).isIdleAside = true ∧ s.entryOf d = none then s.liftDoor d else s

/-- The positioned doors handed in batch order, each due at the base time plus its offset (R58, R59). -/
def State.handPlaces (o : Origin) (base : Tenths) (ps : List (Nat × Nat)) (s : State) : State :=
  ps.foldl (fun s p => s.handPosition o p.1 (base + BitVec.ofNat 32 p.2)) s

/-- The zones of a batch that it leaves with no member settle (R66). -/
def State.settleEmpty (zones : List Nat) (s : State) : State :=
  s.forEach zones fun z s => if s.outstanding z = 0 then s.settled z else s

/-- A batch of kind `k` over `zones`, ascending, from the doors considered, ascending: the classes and the
positions are those of the state at the formation, and so is the base time (R53). -/
def State.formBatch (k : BatchKind) (zones doors : List Nat) (s : State) : State :=
  (((((s.clearTallies zones).forEach doors (State.tallyStanding (s.standing k))).forEach doors
      (State.liftIdle k)).forEach (s.classed k doors .untargeted) State.dropUntargeted).handPlaces
      k.origin s.count (s.places k zones doors)).handEach (s.classed k doors .released)
      (some .released) .fire s.count
    |>.settleEmpty zones

/-- The doors enqueued by the batch just formed: the sum of its zones' enqueued tallies (R92). -/
def State.enqueued (s : State) (zones : List Nat) : Nat :=
  (zones.map fun z => (s.zone z).tallies.enqueued).sum

end Sys2Proof.Machine
end

