-- ==== Sys2Proof/Machine/Schedule.lean ====
section
/-!
DEFINITION. The Schedule Evaluator and the Week Clock's minute (chapters 02, 03 and section 8.4): the time
test, the scheduled states, an evaluation, the countdown, a minute event and the end of start-up.
-/

namespace Sys2Proof.Machine

/-! ### Windows (R35, R40, R46, R47) -/

/-- The difference of two minutes on the week circle, 0 to 10079 (R27, R40). -/
def minutesAfter (m from_ : Nat) : Nat := (m % 10080 + 10080 - from_ % 10080) % 10080

/-- The time test (R40). -/
def Window.matches (m : Nat) (w : Window) : Bool := decide (minutesAfter m w.start < w.length)

/-- The window takes part under the active plan (R35). -/
def Window.takesPart (plan : Nat) (w : Window) : Bool := w.plans.getLsbD plan

/-- The single-shot rule at minute `m` (R46, R47): retired, matched, or left. -/
def Window.singleShot (plan m : Nat) (w : Window) : Option Window :=
  if w.single && w.matched && !w.matches m then none
  else if w.single && w.takesPart plan && w.matches m then some { w with matched := true }
  else some w

/-- The single-shot rule applied to a slot. -/
def slotAt (plan m : Nat) (w : Option Window) : Option Window := w.bind (Window.singleShot plan m)

/-- The window speaks for zone `z` (R35). -/
def Window.speaksFor (z : Nat) (w : Window) : Bool :=
  match w.zone with
  | none => true
  | some y => decide (y = z)

/-- The candidates of zone `z` at minute `m` (R41, step 2). -/
def State.candidates (s : State) (z m : Nat) : List Window :=
  s.windows.rows.reduceOption.filter fun w =>
    w.takesPart s.plan && w.speaksFor z && w.matches m

/-- The scheduled state of zone `z` at minute `m` (R41). -/
def State.scheduledAt (s : State) (z m : Nat) : Option ZoneState :=
  match s.clock with
  | .unset => none
  | .running =>
    let ws := s.candidates z m
    let top := (ws.map Window.priority).foldl max 0
    if ws.isEmpty then some (s.zone z).defaultState
    else if ws.any fun w => decide (w.priority = top) && decide (w.action = .secure) then some .secure
    else some .opened

/-! ### Evaluations (R12, R43 to R45) -/

/-- R12, R155: an UNTIL-TRANSITION override of a mapped door of the zones is removed. -/
def Door.atTransition (zones : List Nat) (r : Door) : Door :=
  if r.place.isSome && zones.contains r.zone && !r.isTimed then { r with override := none } else r

/-- The UNTIL-TRANSITION overrides of the mapped doors of the zones are removed (R12). -/
def State.dropTransitional (zones : List Nat) (s : State) : State :=
  { s with doors := s.doors.mapIdx fun _ r => r.atTransition zones }

/-- The targets of the mapped doors of the zones are recomputed and stored (R12). -/
def State.storeTargets (zones : List Nat) (s : State) : State :=
  s.forEach (s.doorsWhere fun r => zones.contains r.zone) State.storeTarget

/-- The batch of a transition set from its zones whose new state is `z` (R53). -/
def State.scheduleBatch (k : BatchKind) (z : ZoneState) (zones : List Nat) (s : State) : State :=
  let turned := zones.filter fun n => decide ((s.zone n).scheduled = some z)
  s.formBatch k turned (s.doorsWhere fun r => turned.contains r.zone)

/-- The transition set reaches the Door Map: overrides removed, targets recomputed, then the batch toward
SECURE and the batch toward OPEN (R12, R53). -/
def State.transition (zones : List Nat) (s : State) : State :=
  (((s.dropTransitional zones).storeTargets zones).scheduleBatch .secure .secure zones).scheduleBatch
    .opened .opened zones

/-! ### The evaluation itself (R44) -/

/-- Steps 1 and 2: the time tests and the single-shot rule, unless the clock is UNSET (R50). -/
def State.stepWindows (m : Nat) (s : State) : State :=
  match s.clock with
  | .unset => s
  | .running => { s with windows := s.windows.mapIdx fun _ w => slotAt s.plan m w }

/-- Steps 3 and 5: every zone's scheduled state is replaced by the one of minute `m`. -/
def State.reschedule (m : Nat) (s : State) : State :=
  { s with zones := s.zones.mapIdx fun z r => { r with scheduled := s.scheduledAt z m } }

/-- Step 4: the zones whose state at minute `m` differs from the one held. -/
def State.transitionSet (s : State) (m : Nat) : List Nat :=
  (List.range 64).filter fun z => decide (s.scheduledAt z m ≠ (s.zone z).scheduled)

/-- An evaluation at minute `m`, taken whole (R44). -/
def State.evaluate (m : Nat) (s : State) : State :=
  let s1 := s.stepWindows m
  if (s1.transitionSet m).isEmpty then s1.reschedule m
  else ((s1.reschedule m).transition (s1.transitionSet m)).driveRequests

/-- A re-evaluation cause of the table's last row (R43): at E, while the Evaluator is ACTIVE. -/
def State.reevaluate (s : State) : State :=
  match s.evaluator with
  | .waiting => s
  | .active => s.evaluate (s.evaluated.getD 0)

/-! ### The countdown (R154) -/

/-- A timed override's minutes left are lowered by 1; at 0 it is removed. -/
def Door.countdown (r : Door) : Door :=
  match r.override with
  | some ⟨a, c, .minutes n⟩ =>
    { r with override := if n ≤ 1 then none else some ⟨a, c, .minutes (n - 1)⟩ }
  | _ => r

/-- The door's timed override runs out at the next minute event. -/
def Door.runsOut (r : Door) : Bool :=
  match r.override with
  | some ⟨_, _, .minutes n⟩ => decide (n ≤ 1)
  | _ => false

/-- Every mapped door's timed override is lowered by 1. -/
def State.lowerOverrides (s : State) : State :=
  { s with doors := s.doors.mapIdx fun _ r => if r.place.isSome then r.countdown else r }

/-- The countdown of every timed override, and the hand-offs of those that ran out, in ascending door number
(R15, R154, log 41). -/
def State.countdown (s : State) : State :=
  (s.lowerOverrides.forEach (s.doorsWhere Door.runsOut) fun d s =>
    s.retarget d .override false).driveRequests

/-! ### Minute events (R27) -/

/-- Minute `m` is ahead of E (R27). -/
def isAhead (m e : Nat) : Bool := decide (1 ≤ minutesAfter m e) && decide (minutesAfter m e ≤ 5039)

/-- An evaluation, if the Evaluator is ACTIVE (R42, R43). -/
def State.evaluateActive (m : Nat) (s : State) : State :=
  match s.evaluator with
  | .waiting => s
  | .active => s.evaluate m

/-- A minute event for minute `m` (R27): the evaluation and the countdown. Where a timed override runs out
at this event the manual lets either be taken first, and a free value decides (log 14). -/
def State.minuteEvent (m : Nat) (s : State) : State :=
  let s1 : State := { s with evaluated := some m }
  if !(s.doorsWhere Door.runsOut).isEmpty && Config.evaluationFirst s.count then
    (s1.evaluateActive m).countdown
  else s1.countdown.evaluateActive m

/-- The minute `m` is compared with E, and raises a minute event when it is ahead of it (R27, R32). -/
def State.minuteReached (m : Nat) (s : State) : State :=
  match s.evaluated with
  | some e => if isAhead m e then s.minuteEvent m else s
  | none => s

/-! ### The end of start-up (R190) -/

/-- Start-up ends when the starting window first closes: the Evaluator becomes ACTIVE, and with a RUNNING
clock the first evaluation is handed as a jump (R29, R190). -/
def State.endStartUp (s : State) : State :=
  match s.evaluator with
  | .active => s
  | .waiting =>
    if s.isStarting then s
    else
      let s1 : State := { s with evaluator := .active }
      match s.clock with
      | .unset => s1
      | .running => { s1 with evaluated := some s.minute }.evaluate s.minute

end Sys2Proof.Machine
end

