-- ==== Sys2Proof/Machine/Trunks.lean ====
section
/-!
DEFINITION. The Trunk Controllers (chapters 06 and 07): ownership, the roll call, the choice of the next
transaction, what a reply or a missed reply leads to, the trunk reset, listening while yielded.
-/

namespace Sys2Proof.Machine

/-! ### Ownership and the roll call (R106 to R109, R128, R129, R131) -/

/-- The trunk becomes YIELDED, with its notice (R131). -/
def State.yieldTrunk (t : Nat) (s : State) : State :=
  (s.onTrunk t fun r => { r with ownership := .yielded }).submit (.trunk t .yielded)

/-- A transaction starts and the trunk is DRIVING (R102, R128). -/
def State.start (t : Nat) (c : TrunkCommand) (p : Purpose) (rate : Rate) (s : State) : State :=
  s.onTrunk t fun r => { r with ownership := .driving, transaction := some ⟨c, p, rate, .frame, false⟩ }

/-- The rate at which rate reset broadcast `k` is sent (R106). -/
def resetRate : Nat → Rate
  | 0 => .r76800
  | 1 => .r38400
  | 2 => .r19200
  | _ => .r9600

/-- The rate a roll call chooses: the lowest maximum rate of the roster, or 9600 (R109). -/
def chosenRate : List Node → Rate
  | [] => .r9600
  | n :: ns => ns.foldl (fun r n => if n.maxRate.code < r.code then n.maxRate else r) n.maxRate

/-- The roll call's next step takes the line (R106, R107, R109). -/
def State.rollOn (t : Nat) (s : State) : State :=
  match (s.trunk t).rollStep with
  | .rateReset k => s.start t (.rate .r9600) .rateReset (resetRate k)
  | .roll a => s.start t (.roll a) .rollCall .r9600
  | .close => s.start t (.rate (chosenRate (s.trunk t).roster)) .rollClose .r9600

/-- The trunk is IDLE-OWNER; a roll call begins or goes on, unless a reply window that a reset abandoned is
still open (R106, R129). -/
def State.ownLine (t : Nat) (s : State) : State :=
  let s1 := s.onTrunk t fun r => { r with ownership := .idleOwner }
  if (s.trunk t).state = .rollCall ∧ (s.trunk t).windowWait = false then s1.rollOn t else s1

/-- The trunk leaves DRIVING or RESET by the level of HOLD (R128, R129). -/
def State.settleOwnership (t : Nat) (s : State) : State :=
  let s1 := if (s.trunk t).isHeld then s.yieldTrunk t else s.ownLine t
  s1.driveRequest t

/-- The transaction in progress ends (R102, R128). A disabled trunk, whose abort trailer has been sent,
goes to RESET (R117, R121). -/
def State.endTransaction (t : Nat) (s : State) : State :=
  let s1 := s.onTrunk t fun r => { r with transaction := none }
  if (s.trunk t).state = .disabled then s1.onTrunk t fun r => { r with ownership := .reset }
  else s1.settleOwnership t

/-- A node's routine period in tenths (R115). -/
def State.routinePeriod (s : State) (t a : Nat) : Nat :=
  let secured : Bool :=
    match s.doorAt t a with
    | some d => decide ((s.zone (s.door d).zone).scheduled = some .secure)
    | none => false
  10 * (if secured then (s.trunk t).night else (s.trunk t).day)

/-- The roll call completes (R109). The routine periods are read before the evaluation that ends start-up in the
same command, with every zone still NONE (R115, log 52). -/
def State.rollCallDone (t : Nat) (s : State) : State :=
  let due (n : Node) : Node := { n with routineDue := some (s.after (s.routinePeriod t n.addr)) }
  (s.onTrunk t fun r =>
    { r with
      state := .running, startCall := false, rate := chosenRate r.roster,
      roster := r.roster.map due }).submit (.trunk t .rollCallDone)

/-- The ROLL of address `a` has ended: the next address, or the end of the survey (R107, R109). The roll call done
notice stands before a yielded notice that HOLD raises in the same command (log 15). -/
def State.advanceRoll (t a : Nat) (s : State) : State :=
  if a < 63 then s.onTrunk t fun r => { r with rollStep := .roll (a + 1) }
  else if chosenRate (s.trunk t).roster = .r9600 then s.rollCallDone t
  else s.onTrunk t fun r => { r with rollStep := .close }

/-- A record joins a roster in its place; it takes the place of one of the same address (R110). -/
def insertNode (n : Node) : List Node → List Node
  | [] => [n]
  | m :: ms =>
    if n.addr < m.addr then n :: m :: ms
    else if n.addr = m.addr then n :: ms
    else m :: insertNode n ms

/-! ### Choosing the next transaction (R77 to R81, R113) -/

/-- The due follow-up and close-watch polls (R113, step 1). -/
def Trunk.watchDues (r : Trunk) : List (Tenths × Nat × Purpose) :=
  r.roster.flatMap fun n =>
    (n.followUpDue.map fun x => (x, n.addr, Purpose.followUp)).toList ++
    (n.closeWatchDue.map fun x => (x, n.addr, Purpose.closeWatch)).toList

/-- The due routine polls and recovery turns (R113, step 3). -/
def Trunk.roundDues (r : Trunk) : List (Tenths × Nat × Purpose) :=
  r.roster.flatMap fun n =>
    if n.online then (n.routineDue.map fun x => (x, n.addr, Purpose.routine)).toList
    else (n.recoveryDue.map fun x => (x, n.addr, Purpose.recoveryFirst)).toList

/-- The best of the eligible entries of a trunk: the lowest urgency, then the earliest due, then the older
entry (R78). -/
def State.bestEntry (s : State) (t : Nat) : Option Entry :=
  (s.queue.filter (s.isEligible t)).foldl
    (fun best e =>
      match best with
      | none => some e
      | some b =>
        if e.origin.urgency < b.origin.urgency ∨
            (e.origin.urgency = b.origin.urgency ∧ s.since b.due < s.since e.due) then some e
        else some b)
    none

/-- The candidate of a trunk: the best entry, if it fits (R78, R79). -/
def State.candidate (s : State) (t : Nat) : Option Entry :=
  (s.bestEntry t).filter fun e => s.fits t (s.lockClass (s.door e.door).lockClass).cost

/-- The frame of an entry's command to node `a` (R81). -/
def EntryTarget.command (a : Nat) : EntryTarget → TrunkCommand
  | .drive .locked => .throw a
  | .drive .released => .withdraw a
  | .pulse n => .pulse a n

/-- The tenths an attempt is given besides twice its class's actuation time (R81). -/
def EntryTarget.pulseTenths : EntryTarget → Nat
  | .drive _ => 0
  | .pulse n => 10 * n

/-- The trunk takes an offered entry and starts its command frame (R80, R81). -/
def State.issue (t : Nat) (e : Entry) (s : State) : State :=
  match (s.door e.door).place with
  | none => s
  | some p =>
    let c := s.lockClass (s.door e.door).lockClass
    let a : Attempt := ⟨c.cost, s.count, s.after (2 * c.time + e.target.pulseTenths), none, false⟩
    ((s.putEntry { e with phase := .issued a }).onDoor e.door fun r => { r with lastBy := .part }).start
      t (e.target.command p.node) (.command e.door) (s.trunk t).rate

/-- The selector's choice on a free trunk that owns its line and is RUNNING (R113). -/
def State.select (t : Nat) (s : State) : State :=
  let r := s.trunk t
  if r.state = .running ∧ r.ownership = .idleOwner ∧ r.transaction = none then
    match s.earliest r.watchDues with
    | some (_, a, p) => s.start t (.poll a) p r.rate
    | none =>
      match s.candidate t with
      | some e => s.issue t e
      | none =>
        match s.earliest r.roundDues with
        | some (_, a, p) => s.start t (.poll a) p r.rate
        | none => s
  else s

/-! ### Replies (R102 to R104, R108, R112, R114) -/

/-- A reply is received from the node: its missed count is 0 and its routine due is set (R103, R104). -/
def State.heardFrom (t a : Nat) (s : State) : State :=
  let due := s.after (s.routinePeriod t a)
  s.onTrunk t (Trunk.onNode a fun n => { n with missed := 0, routineDue := some due })

/-- A ROLL's reply: the first accepted reply fixes the polarity and the record joins the roster (R107, R108). -/
def State.enroll (t a : Nat) (inverted : Bool) (o : Status) (s : State) : State :=
  let due := s.after (s.routinePeriod t a)
  s.onTrunk t fun r =>
    { r with
      polarity :=
        if r.polarity = .undetermined then (if inverted then .inverted else .normal) else r.polarity,
      roster := insertNode ⟨a, o.kind, o.maxRate, true, 0, some due, none, none, none⟩ r.roster }

/-- A recovery turn's reply brings the node back ONLINE, with its notice (R112). -/
def State.bringOnline (t a : Nat) (o : Status) (s : State) : State :=
  let due := s.after (s.routinePeriod t a)
  (s.onTrunk t (Trunk.onNode a fun n =>
    { n with
      online := true, missed := 0, kind := o.kind, maxRate := o.maxRate, recoveryDue := none,
      routineDue := some due })).submit (.node t a .online)

/-- A recovery turn that does not bring the node back (R112). -/
def State.postponeRecovery (t a : Nat) (s : State) : State :=
  s.onTrunk t (Trunk.onNode a fun n => { n with recoveryDue := some (s.after 600) })

/-- After a follow-up poll or a command, the node's next follow-up due, while its door's entry is ISSUED. -/
def State.rearmFollowUp (t a : Nat) (s : State) : State :=
  match s.doorAt t a with
  | some d => if ((s.entryOf d).map Entry.isIssued).getD false then s.armFollowUp d else s
  | none => s

/-- After a close-watch poll, the node's next close-watch due, while its door's entry is WAIT-CLOSE. -/
def State.rearmCloseWatch (t a : Nat) (s : State) : State :=
  match s.doorAt t a with
  | some d => if s.isWaitingClose d then s.armCloseWatch d else s
  | none => s

/-- An accepted reply completes the transaction `x` to node `a` (R104). The NODE notice of a node that comes back
ONLINE stands before its door's DOOR STATUS notice (log 15). -/
def State.replied (t a : Nat) (x : Transaction) (inverted : Bool) (o : Status) (s : State) : State :=
  match x.purpose with
  | .rollCall =>
    let s1 := s.enroll t a inverted o
    let s2 :=
      match s1.doorAt t a with
      | some d => s1.observe d o .rollCall
      | none => s1.submit (.node t a .unmappedPresent)
    (s2.advanceRoll t a).endTransaction t
  | .recoveryFirst => ((s.bringOnline t a o).observeAt t a o .other).endTransaction t
  | .recoverySecond =>
    let rate := (s.trunk t).rate
    if o.maxRate.code < rate.code then
      ((s.observeAt t a o .other).postponeRecovery t a).endTransaction t
    else ((s.bringOnline t a o).observeAt t a o .other).start t (.rate rate) .recoveryRate .r9600
  | .command _ =>
    (((s.heardFrom t a).observeAt t a o (.command o.result)).rearmFollowUp t a).endTransaction t
  | .followUp => (((s.heardFrom t a).observeAt t a o .other).rearmFollowUp t a).endTransaction t
  | .closeWatch => (((s.heardFrom t a).observeAt t a o .other).rearmCloseWatch t a).endTransaction t
  | _ => ((s.heardFrom t a).observeAt t a o .other).endTransaction t

/-- A frame of which the trunk hears the bytes while a transaction awaits its reply (R103): accepted, or
discarded, which makes the reply missed when the window closes. Where start-up ends with it, the TRUNK notices
stand before those of the first evaluation (R190, log 15). -/
def State.hearReply (t : Nat) (heard : List Byte) (s : State) : State :=
  match (s.trunk t).transaction with
  | none => s
  | some x =>
    match x.command.addr with
    | none => s
    | some a =>
      if x.phase = .trailer ∨ x.spoiled = true then s
      else
        match acceptStatus (s.trunk t).polarity a heard with
        | some (inverted, o) => (s.replied t a x inverted o).endStartUp
        | none => s.onTrunk t fun r => { r with transaction := some { x with spoiled := true } }

/-! ### Missed replies (R103, R111, R112) -/

/-- The node becomes OFFLINE (R21, R91, R111); the NODE notice stands before the door's (log 15). -/
def State.goOffline (t a : Nat) (s : State) : State :=
  let s1 := (s.onTrunk t (Trunk.onNode a fun n =>
    { n with
      online := false, missed := 3, routineDue := none, followUpDue := none, closeWatchDue := none,
      recoveryDue := some (s.after 600) })).submit (.node t a .offline)
  match s.doorAt t a with
  | some d =>
    (s1.removeEntry d .offline (some .unreachable)).delivered d s
      (decide ((s.door d).agreement ≠ .unknown))
  | none => s1

/-- A missed reply of an ONLINE node counts toward its offline threshold (R103, R111). -/
def State.missedReply (t a : Nat) (s : State) : State :=
  match (s.trunk t).node a with
  | some n =>
    if n.online then
      if n.missed + 1 < 3 then s.onTrunk t (Trunk.onNode a fun n => { n with missed := n.missed + 1 })
      else s.goOffline t a
    else s
  | none => s

/-- An attempt ends outside an observation, with the notices that follow. -/
def State.endAttemptNow (d : Nat) (k : AttemptEnd) (s : State) : State :=
  (s.endAttempt d k).delivered d s false

/-- The reply window of transaction `x` to node `a` closes without an accepted reply: an attempt ends before the
reply is counted as missed (R82, R87, R91, log 43). -/
def State.unanswered (t a : Nat) (x : Transaction) (s : State) : State :=
  match x.purpose with
  | .rollCall => (s.advanceRoll t a).endTransaction t
  | .recoveryFirst =>
    if (s.trunk t).rate = .r9600 then (s.postponeRecovery t a).endTransaction t
    else s.start t (.poll a) .recoverySecond .r9600
  | .recoverySecond => (s.postponeRecovery t a).endTransaction t
  | .command d => ((s.endAttemptNow d .turnedAway).missedReply t a).endTransaction t
  | .followUp => ((s.rearmFollowUp t a).missedReply t a).endTransaction t
  | .closeWatch => ((s.rearmCloseWatch t a).missedReply t a).endTransaction t
  | _ =>
    let due := s.after (s.routinePeriod t a)
    ((s.onTrunk t (Trunk.onNode a fun n => { n with routineDue := some due })).missedReply t a).endTransaction t

/-- A reply window of trunk `t` closes: that of the transaction, or one that a reset abandoned (R103, R106). Where
start-up ends with it, the TRUNK notices stand before those of the first evaluation (R190, log 15). -/
def State.closeWindow (t : Nat) (s : State) : State :=
  match (s.trunk t).transaction with
  | some x =>
    match x.command.addr with
    | some a => if x.phase = .trailer then s else (s.unanswered t a x).endStartUp
    | none => s
  | none =>
    if (s.trunk t).windowWait then
      let s1 := s.onTrunk t fun r => { r with windowWait := false }
      if (s.trunk t).ownership = .idleOwner then s1.ownLine t else s1
    else s

/-! ### Broadcasts and the abort trailer (R88, R102, R117) -/

/-- A RATE broadcast has been transmitted (R102, R106, R109, R112). Where start-up ends with it, the TRUNK notices
stand before those of the first evaluation (R190, log 15). -/
def State.endBroadcast (t : Nat) (s : State) : State :=
  match (s.trunk t).transaction with
  | some ⟨.rate _, p, _, .frame, _⟩ =>
    let s1 :=
      match p, (s.trunk t).rollStep with
      | .rateReset, .rateReset k =>
        s.onTrunk t fun r =>
          { r with rollStep := if k < 3 then .rateReset (k + 1) else .roll 1 }
      | .rollClose, _ => s.rollCallDone t
      | _, _ => s
    (s1.endTransaction t).endStartUp
  | _ => s

/-- The abort trailer has been transmitted: the transaction ends without a reply window, and an entry whose
command it was is treated as never issued (R88, R117). -/
def State.endTrailer (t : Nat) (s : State) : State :=
  match (s.trunk t).transaction with
  | some ⟨_, p, _, .trailer, _⟩ =>
    let s1 :=
      match p with
      | .command d => s.endAttemptNow d .aborted
      | _ => s
    s1.endTransaction t
  | _ => s

/-- The door's number when the frame on the line is a THROW or PULSE to an egress door's node (R77). -/
def State.isBarredFrame (s : State) (x : Transaction) : Bool :=
  match x.command, x.purpose with
  | .throw _, .command d => decide (x.phase = .frame) && (s.door d).egress
  | .pulse _ _, .command d => decide (x.phase = .frame) && (s.door d).egress
  | _, _ => false

/-- A transaction whose frame is on the line is ended with the abort trailer, sent at the trunk's rate (R117). -/
def Transaction.aborted (rate : Rate) (x : Transaction) : Transaction :=
  if x.phase = .frame then { x with phase := .trailer, rate := rate } else x

/-- What a transaction puts on the line of its trunk: its frame, nothing while its reply window is open, or the
abort trailer (R101, R102, R117). -/
def Transaction.sends (x : Transaction) : List Byte :=
  match x.phase with
  | .frame => x.command.line
  | .window => []
  | .trailer => abortTrailer

/-- The fire latch sets: each trunk ends such a frame with the abort trailer (R77, R117, R138). -/
def State.abortForFire (s : State) : State :=
  { s with
    trunks := s.trunks.mapIdx fun _ r =>
      match r.transaction with
      | some x =>
        if s.isBarredFrame x then { r with transaction := some (x.aborted r.rate) } else r
      | none => r }

/-! ### Trunk reset and disabling (R24, R99, R121, R126) -/

/-- What a link reset or a trunk reset does to a mapped door (R24). -/
def Door.forgotten (r : Door) : Door :=
  { r with
    bolt := .unknown, leaf := .unknown, tamper := false, snapshot := none, agreement := .unknown }

/-- The transaction a reset leaves on a trunk of rate `rate`: a frame on the line is ended with the abort
trailer, and a reply window is abandoned (R117). -/
def abortedTransaction (rate : Rate) : Option Transaction → Option Transaction
  | some x => if x.phase = .window then none else some (x.aborted rate)
  | none => none

/-- A reset finds the transaction in its reply window (R106). -/
def isInWindow : Option Transaction → Bool
  | some x => decide (x.phase = .window)
  | none => false

/-- The trunk's live fields after a reset or a disabling, but for its state (R121, R126). While the abort
trailer is on the line the trunk is DRIVING (R127, log 11). The 50 ms of second-master frames heard before are
forgotten, also where the trunk returns to YIELDED at once (log 26). -/
def Trunk.cleared (r : Trunk) : Trunk :=
  { r with
    ownership := if (abortedTransaction r.rate r.transaction).isSome then .driving else .reset,
    polarity := .undetermined, rate := .r9600, roster := [], supply := .normal, request := false,
    transaction := abortedTransaction r.rate r.transaction, rollStep := .rateReset 0,
    windowWait := r.windowWait || isInWindow r.transaction, snoops := [] }

/-- A reset ends the command frame on the line of trunk `t`, or finds its abort trailer there: the entry is treated
as never issued, and a retarget it holds is applied (R87, R88). -/
def State.abortCommand (t : Nat) (s : State) : State :=
  match (s.trunk t).transaction with
  | some ⟨_, .command d, _, p, _⟩ =>
    if p ≠ .window ∧ (s.door d).isOn t = true then s.endAttempt d .aborted else s
  | _ => s

/-- The Sweep Queue removes the trunk's entries, and the Door Map makes its mapped doors UNKNOWN; the zones
whose count falls to 0 settle (R24, R99). -/
def State.forgetTrunk (t : Nat) (s : State) : State :=
  let held := s.doorsWhere fun r => r.isOn t
  let s0 := s.abortCommand t
  let s1 := s0.forEach (held.filter fun d => (s0.entryOf d).isSome) fun d s =>
    s.removeEntry d .trunkReset (some .unreachable)
  let s2 : State :=
    { s1 with doors := s1.doors.mapIdx fun _ r => if r.isOn t then r.forgotten else r }
  s2.settleZones s

/-- A trunk reset (R126); `opens` says that its roll call keeps the starting window open (R147). -/
def State.resetTrunk (t : Nat) (opens : Bool) (s : State) : State :=
  let s1 := (s.forgetTrunk t).onTrunk t fun r =>
    { r.cleared with state := .rollCall, startCall := r.startCall || opens }
  if (s1.trunk t).transaction.isSome then s1 else s1.settleOwnership t

/-- The trunk is disabled (R121). -/
def State.disableTrunk (t : Nat) (s : State) : State :=
  ((s.forgetTrunk t).onTrunk t fun r =>
    { r.cleared with state := .disabled, startCall := false }).endStartUp

/-! ### HOLD (R128, R132, R136) -/

/-- R136: the attempts of a trunk that comes back from YIELDED with their limits passed are decided by their
next follow-up result. -/
def State.graceOn (t : Nat) (s : State) : State :=
  { s with
    queue := s.queue.map fun e =>
      match e.phase with
      | .issued a =>
        if (s.door e.door).isOn t then
          { e with phase := .issued { a with grace := s.arrived a.limit } }
        else e
      | _ => e }

/-- The trunk goes from YIELDED to IDLE-OWNER, with its notice (R128, R131). -/
def State.regainTrunk (t : Nat) (s : State) : State :=
  (((s.graceOn t).submit (.trunk t .owned)).ownLine t).driveRequest t

/-- HOLD has become ASSERTED, or is read from this moment (R128, R132). -/
def State.yieldIfHeld (t : Nat) (s : State) : State :=
  if (s.trunk t).isHeld ∧ (s.trunk t).ownership = .idleOwner then (s.yieldTrunk t).driveRequest t else s

/-- HOLD has become NEGATED, or is read no more (R128, R132). -/
def State.regainIfFree (t : Nat) (s : State) : State :=
  if (s.trunk t).isHeld = false ∧ (s.trunk t).ownership = .yielded then s.regainTrunk t else s

/-! ### Listening while yielded (R133 to R135) -/

/-- The kinds of a second-master frame (R133). -/
def isMasterKind (k : Nat) : Bool := decide (1 ≤ k) && decide (k ≤ 6)

/-- The kinds that move a bolt: THROW, WITHDRAW, PULSE (R134). -/
def isMovingKind (k : Nat) : Bool := decide (4 ≤ k) && decide (k ≤ 6)

/-- A second-master frame heard on a yielded trunk (R133, R134): one to a node has a time of its own in which the
node's reply is awaited (log 26). A YIELDED trunk listens also while a reply window that a reset abandoned is still
open (R106, log 12). -/
def State.hearMaster (t : Nat) (heard : List Byte) (s : State) : State :=
  if (s.trunk t).ownership = .yielded then
    match readTrunkFrame heard with
    | some f =>
      if isMasterKind f.kind then
        let s1 := s.onTrunk t fun r =>
          { r with
            snoops := if 1 ≤ f.addr ∧ f.addr ≤ 63 then r.snoops ++ [⟨f.addr, false⟩] else r.snoops }
        match isMovingKind f.kind, s.doorAt t f.addr with
        | true, some d => s1.onDoor d fun r => { r with lastBy := .secondMaster }
        | _, _ => s1
      else s
    | none => s
  else s

/-- A snooped reply is delivered, and ends the oldest wait for one from its node (R133, R135). -/
def State.snoopReply (t a : Nat) (o : Status) (s : State) : State :=
  let s1 := s.onTrunk t fun r =>
    Trunk.onNode a (fun n => { n with missed := if n.online then 0 else n.missed })
      { r with snoops := r.snoops.eraseP fun w => decide (w.addr = a) }
  (s1.observeAt t a o .other).driveRequest t

/-- The node and the reply that the bytes heard are, if a reply from that node is awaited (R133). -/
def Trunk.snooped (r : Trunk) (heard : List Byte) : Option (Nat × Status) :=
  r.snoops.findSome? fun w => (acceptStatus r.polarity w.addr heard).map fun x => (w.addr, x.2)

/-- A STATUS frame heard on a yielded trunk (R133), also while a reply window that a reset abandoned is still open
(R106, log 12). -/
def State.hearSnooped (t : Nat) (heard : List Byte) (s : State) : State :=
  if (s.trunk t).ownership = .yielded then
    match (s.trunk t).snooped heard with
    | some (a, o) => s.snoopReply t a o
    | none => s
  else s

/-! ### The supply monitor (R118) -/

/-- A sample in steps of 0.1 V is stored and judged (R118). -/
def State.sampleSupply (t v : Nat) (s : State) : State :=
  let m := min v 315
  let s1 := s.onTrunk t fun r => { r with measured := m }
  let threshold := 190 + 10 * (s.trunk t).level
  match (s.trunk t).state, (s.trunk t).supply with
  | .disabled, _ => s1
  | _, .normal =>
    if m < threshold then
      (s1.onTrunk t fun r => { r with supply := .low }).submit (.trunk t .supplyLow)
    else s1
  | _, .low =>
    if threshold + 5 ≤ m then
      (s1.onTrunk t fun r => { r with supply := .normal }).submit (.trunk t .supplyNormal)
    else s1

end Sys2Proof.Machine
end

