-- ==== Sys2Proof/Machine/Clock.lean ====
section
/-!
DEFINITION. The Week Clock's requests (chapter 02, R31 to R34): SET_TIME and READ_TIME.
-/

namespace Sys2Proof.Machine

/-- A position on the week in tenths (R31). -/
def weekPosition (minute second tenths : Nat) : Nat := (minute * 60 + second) * 10 + tenths

/-- The forward distance from `p` to `q` on the week circle (R31). -/
def forwardDistance (p q : Nat) : Nat := (q % 6048000 + 6048000 - p % 6048000) % 6048000

/-- R31: how a SET TIME is classified; a forward correction by 1 to 900 tenths, any other correction, or a
jump. -/
inductive TimeSetting where
  | forward | held | jump
  deriving DecidableEq, Repr

def State.classify (s : State) (minute second : Nat) : TimeSetting :=
  let d := forwardDistance (weekPosition s.minute s.second s.tenths) (weekPosition minute second 0)
  match s.clock with
  | .unset => .jump
  | .running =>
    if d = 0 then .held
    else if d ≤ 900 then .forward
    else if 6047100 ≤ d then .held
    else .jump

/-- The code of the classification: 0 CORRECTION, 1 JUMP (R31, R187). -/
def TimeSetting.code : TimeSetting → Nat
  | .forward => 0 | .held => 0 | .jump => 1

/-- The clock fields take the new time, the clock runs and the indicator is set (R31). -/
def State.withTime (minute second : Nat) (s : State) : State :=
  { s with minute := minute, second := second, tenths := 0, clock := .running, backupValid := true }

/-- R33: a jump hands an evaluation at the new minute when E is present, or the clock was UNSET outside
start-up; `unset` says that it was. -/
def State.jumpTo (minute : Nat) (unset : Bool) (s : State) : State :=
  if s.evaluated.isSome || (unset && decide (s.evaluator = .active)) then
    { s with evaluated := some minute }.evaluateActive minute
  else s

/-- R31 to R33: an accepted SET TIME. -/
def State.setTime (minute second : Nat) (s : State) : State :=
  let s1 := s.withTime minute second
  match s.classify minute second with
  | .forward => s1.minuteReached minute
  | .held => s1
  | .jump => s1.jumpTo minute (decide (s.clock = .unset))

/-- SET_TIME (R31). -/
def execSetTime (tag minute second : Nat) (s : State) : Host.Outcome State Fault Refusal :=
  .next (s.serve .notSaving tag 0x10 fun s =>
    if 10080 ≤ minute ∨ 60 ≤ second then refuse .badValue s
    else
      ⟨s.setTime minute second, .ok,
        [.n1 (s.classify minute second).code, .n2 minute, .n1 second]⟩)

/-- E, an optional minute of week (R34, R187). -/
def evaluatedField : Option Nat → Field
  | some e => .n2 e
  | none => .absent 2

/-- READ_TIME (R34). -/
def execReadTime (tag : Nat) (s : State) : Host.Outcome State Fault Refusal :=
  .next (s.serve .always tag 0x11 fun s =>
    ⟨s, .ok,
      [.n1 s.clock.code, .n2 s.minute, .n1 s.second, .n1 s.tenths, .n4 s.count.toNat,
        evaluatedField s.evaluated, .n1 (validityCode s.backupValid)]⟩)

end Sys2Proof.Machine
end

