-- ==== Sys2Proof/Machine/Operands.lean ====
section
/-!
DEFINITION. The operands of the commands as the owners take them: which values a field may carry, which
are clamped and how (R4, R5, R7, R36, R120, R144, R166, R187).
-/

namespace Sys2Proof.Machine

/-- A yes or no (R187). -/
def yesNoOf : Nat → Option Bool
  | 0 => some false
  | 1 => some true
  | _ => none

/-- SECURE or OPEN (R187). -/
def zoneStateOf : Nat → Option ZoneState
  | 0 => some .secure
  | 1 => some .opened
  | _ => none

def sharedModeOf : Nat → Option SharedMode
  | 0 => some .unshared
  | 1 => some .twoLine
  | 2 => some .threeLine
  | _ => none

/-- Check 2 of R7: the configuration LOAD DOOR asks for, or `none` for BAD-VALUE. The trunk and node of an
unmapped request are neither checked nor stored. -/
def LoadDoorReq.config (r : LoadDoorReq) : Option DoorConfig :=
  match yesNoOf r.mapped, yesNoOf r.egress, yesNoOf r.guarded, yesNoOf r.watched with
  | some m, some e, some g, some w =>
    if r.zone ≤ 63 ∧ r.lockClass ≤ 7 ∧ (m = true → r.trunk ≤ 7 ∧ 1 ≤ r.node ∧ r.node ≤ 63) then
      some ⟨if m then some ⟨r.trunk, r.node⟩ else none, r.zone, r.lockClass, e, g, w⟩
    else none
  | _, _, _, _ => none

/-- R4: the configuration LOAD ZONE asks for, clamped, or `none` for BAD-VALUE. -/
def LoadZoneReq.config (r : LoadZoneReq) : Option ZoneConfig :=
  match zoneStateOf r.defaultState, yesNoOf r.settle with
  | some d, some n =>
    if r.floor ≤ 3 then
      some ⟨d, r.rank, r.floor, r.step, max 5 r.retry, max 1 (min 15 r.limit), n⟩
    else none
  | _, _ => none

/-- R5: a lock class, clamped. -/
def lockClassOf (cost time : Nat) : LockClass := ⟨max 1 cost, max 1 time⟩

/-- Check 3 of R36: the window LOAD WINDOW asks for, matched no, or `none` for BAD-VALUE. -/
def LoadWindowReq.window (r : LoadWindowReq) : Option Window :=
  match zoneStateOf r.action, yesNoOf r.single with
  | some a, some o =>
    if (r.zone ≤ 63 ∨ r.zone = 255) ∧ 1 ≤ r.plans ∧ r.plans ≤ 255 ∧ r.start ≤ 10079 ∧
        1 ≤ r.length ∧ r.length ≤ 10080 ∧ r.priority ≤ 7 then
      some ⟨if r.zone = 255 then none else some r.zone, BitVec.ofNat 8 r.plans, r.start, r.length,
        a, r.priority, o, false⟩
    else none
  | _, _ => none

/-- A poll period (R100). -/
def isPollPeriod (n : Nat) : Bool := n = 2 || n = 5 || n = 15 || n = 60

/-- Check 3 of R120: the configuration LOAD TRUNK asks for, or `none` for BAD-VALUE. -/
def LoadTrunkReq.config (r : LoadTrunkReq) : Option TrunkConfig :=
  match yesNoOf r.enabled, sharedModeOf r.shared with
  | some e, some m =>
    if 1 ≤ r.budget ∧ r.budget ≤ 255 ∧ r.level ≤ 6 ∧ isPollPeriod r.day ∧ isPollPeriod r.night then
      some ⟨e, r.budget, r.level, r.day, r.night, m⟩
    else none
  | _, _ => none

/-- The expiry a LOCK or RELEASE asks for (R144, R150): 0 is UNTIL-TRANSITION, and a duration above 1440
is clamped. -/
def expiryOf (duration : Nat) : Expiry :=
  if duration = 0 then .untilTransition else .minutes (min 1440 duration)

/-- The pulse seconds a PULSE asks for, clamped into 1 to 60 (R144). -/
def pulseSecondsOf (n : Nat) : Nat := max 1 (min 60 n)

/-- The zones that a ZONE SWEEP names: one, or all 64 for ALL, which is 0xFF (R92, R187). -/
def zonesOf (z : Nat) : Option (List Nat) :=
  if z = 255 then some (List.range 64) else if z ≤ 63 then some [z] else none

/-- The doors that an ACK ALARM names: one, or every door for ALL, which is 0xFFFF (R166, R187). -/
def doorsOf (d : Nat) : Option (List Nat) :=
  if d = 65535 then some (List.range 504) else if d ≤ 503 then some [d] else none

/-- The alarm kinds of an ACK ALARM: a non-empty set (R166), coded as the alarm byte (R187, log 22). -/
def alarmKindsOf (k : Nat) : Option Alarms :=
  if 1 ≤ k ∧ k ≤ 7 then some ⟨decide (k % 2 = 1), decide (k / 2 % 2 = 1), decide (k / 4 % 2 = 1)⟩
  else none

end Sys2Proof.Machine
end

