-- ==== Sys2Proof/Machine/DoorCommands.lean ====
section
/-!
DEFINITION. The Command Filter (chapter 08): RELEASE, LOCK, PULSE, QUERY, CANCEL_OVERRIDE,
DOOR_COMMAND_INVALID.
-/

namespace Sys2Proof.Machine

/-- The five actions of a door command (R144). -/
inductive DoorAction where
  | release | lock | pulse | query | cancel
  deriving DecidableEq, Repr

/-- The codes of R186. -/
def DoorAction.code : DoorAction → Nat
  | .release => 1 | .lock => 2 | .pulse => 3 | .query => 4 | .cancel => 5

/-! ### The checks (R146) -/

/-- The door has an override whose class is above `cls`. -/
def Door.outranks (r : Door) (cls : Nat) : Bool :=
  match r.override with
  | some o => decide (cls < o.cls)
  | none => false

/-- Checks 1 to 7 of R146, which do not read the queue, in their order: whether each fails, and its
result. -/
def State.commonChecks (s : State) (a : DoorAction) (c : DoorCmd) : List (Bool × DoorResult) :=
  let r := s.door c.door
  [(s.isStarting, .starting),
   (decide (3 < c.cls), .badField),
   (r.place.isNone, .unmapped),
   (r.guarded && decide (c.cls < 3), .protected_),
   ((decide (a = .lock) || decide (a = .pulse)) && s.fireLatch && r.egress, .fire),
   (decide (c.cls < (s.zone r.zone).floor), .belowFloor),
   ((decide (a = .lock) || decide (a = .release)) && r.outranks c.cls, .belowFloor)]

/-- Checks 8 to 12 of R146. -/
def State.ownChecks (s : State) (a : DoorAction) (c : DoorCmd) : List (Bool × DoorResult) :=
  let r := s.door c.door
  match a with
  | .pulse =>
    [((s.entryOf c.door).isSome, .doorBusy),
     (decide (r.target ≠ some .locked), .notLocked),
     (decide (r.agreement = .unknown), .unreachable)]
  | .cancel => [(r.override.isNone, .noOverride), (r.outranks c.cls, .belowFloor)]
  | _ => []

/-- The result of the first check that fails; a number above 503 names no mapped record. -/
def State.doorCheck (s : State) (a : DoorAction) (c : DoorCmd) : Option DoorResult :=
  ((s.commonChecks a c ++ s.ownChecks a c).find? (·.1)).map (·.2)

/-! ### The answer (R145, R149) -/

/-- Answers with these results carry the door's state (R145). -/
def DoorResult.hasView : DoorResult → Bool
  | .accepted | .noChange | .fire | .doorBusy | .notLocked | .noOverride | .unreachable => true
  | .starting | .badField | .unmapped | .protected_ | .belowFloor => false

def Door.view (r : Door) : DoorView := ⟨r.bolt, r.leaf, r.target, r.agreement, r.override⟩

def Door.queryView (r : Door) : QueryView := ⟨r.tamper, r.alarms, r.lastBy⟩

/-- The DOOR ANSWER of command `c` with the door's state as the part stands; only an accepted QUERY carries
more (R145, R149). -/
def State.doorAnswer (s : State) (a : DoorAction) (c : DoorCmd) (result : DoorResult) : Answer :=
  .door c.tag c.door a.code result
    (if result.hasView then some (s.door c.door).view else none)
    (if a = .query ∧ result = .accepted then some (s.door c.door).queryView else none)

/-- A door command taken, checked, carried out by `f` and answered (R145, R146). A refused command changes
nothing but the answer list. -/
def State.doorCommand (a : DoorAction) (c : DoorCmd) (f : State → State × DoorResult) (s : State) :
    State :=
  s.takeFrame fun s =>
    match s.doorCheck a c with
    | some result => s.answer (s.doorAnswer a c result)
    | none => (f s).1.answer ((f s).1.doorAnswer a c (f s).2)

/-! ### Carrying out (R149 to R153) -/

/-- The override a LOCK or RELEASE asks for (R150). -/
def overrideOf (l : LockState) (c : DoorCmd) : Override := ⟨l, c.cls, expiryOf c.duration⟩

/-- R150, R151: the override is written, the target recomputed and, when it changed or the door is HELD-OUT
or DEFERRED, handed with origin OVERRIDE. An equal override over an unchanged target is NO-CHANGE under the fire
latch too (R150, R156, log 46). -/
def State.setOverride (l : LockState) (c : DoorCmd) (s : State) : State × DoorResult :=
  let r := s.door c.door
  let o := overrideOf l c
  let s1 := s.onDoor c.door fun r => { r with override := some o }
  let s2 := (s1.commandTarget c.door r.agreement.isPutAside).driveRequestOf c.door
  (s2, if r.override = some o ∧ (s2.door c.door).target = r.target then .noChange else .accepted)

/-- R75, R152: the PULSE entry is created, due now. -/
def State.createPulse (c : DoorCmd) (s : State) : State × DoorResult :=
  ((s.createEntry ⟨c.door, .pulse (pulseSecondsOf c.pulse), .pulse, s.count, 0, .pending⟩).driveRequestOf
    c.door, .accepted)

/-- R153: the override is removed and a changed target handed with origin OVERRIDE. -/
def State.removeOverride (c : DoorCmd) (s : State) : State × DoorResult :=
  let s1 := s.onDoor c.door fun r => { r with override := none }
  ((s1.commandTarget c.door false).driveRequestOf c.door, .accepted)

/-- RELEASE (R150, R151). -/
def execRelease (c : DoorCmd) (s : State) : Host.Outcome State Fault Refusal :=
  .next (s.doorCommand .release c (State.setOverride .released c))

/-- LOCK (R150, R151). -/
def execLock (c : DoorCmd) (s : State) : Host.Outcome State Fault Refusal :=
  .next (s.doorCommand .lock c (State.setOverride .locked c))

/-- PULSE (R152). -/
def execPulse (c : DoorCmd) (s : State) : Host.Outcome State Fault Refusal :=
  .next (s.doorCommand .pulse c (State.createPulse c))

/-- QUERY (R149): answered from the record, and changes nothing. -/
def execQuery (c : DoorCmd) (s : State) : Host.Outcome State Fault Refusal :=
  .next (s.doorCommand .query c fun s => (s, .accepted))

/-- CANCEL_OVERRIDE (R153). -/
def execCancelOverride (c : DoorCmd) (s : State) : Host.Outcome State Fault Refusal :=
  .next (s.doorCommand .cancel c (State.removeOverride c))

/-! ### A body that is none of the five commands (R146, R186) -/

/-- The door number of a command body: 0xFFFF when it is too short to carry one (R186). -/
def bodyDoor (body : List Byte) : Nat :=
  match body with
  | d1 :: d0 :: _ => d1.toNat * 256 + d0.toNat
  | _ => 0xFFFF

/-- The action of a command body: 0xFF when absent (R186). -/
def bodyAction (body : List Byte) : Nat :=
  match body with
  | _ :: _ :: a :: _ => a.toNat
  | _ => 0xFF

/-- DOOR_COMMAND_INVALID (R144, R146). A body that spells a door command is not one (log 7). -/
def execDoorCommandInvalid (tag : Nat) (body : List Byte) (s : State) :
    Host.Outcome State Fault Refusal :=
  .next <|
    if doorCommandOf tag body = .doorCommandInvalid tag body then
      s.takeFrame fun s =>
        s.answer (.door tag (bodyDoor body) (bodyAction body)
          (if s.isStarting then .starting else .badField) none none)
    else s

end Sys2Proof.Machine
end

