-- ==== Sys2Proof/Machine/Doors.lean ====
section
/-!
DEFINITION. The Door Map's requests (chapters 01, 09 and R181): LOAD_DOOR, READ_DOOR, LIST_HELD_OUT,
ACK_ALARM, LOAD_ZONE, READ_ZONE, LOAD_CLASS, READ_CLASS.
-/

namespace Sys2Proof.Machine

/-! ### LOAD DOOR (R7, R8) -/

/-- Another mapped door holds the trunk and node (R7, check 4). -/
def State.conflicts (s : State) (d : Nat) (p : Option Place) : Bool :=
  p.isSome && s.doors.rows.zipIdx.any fun x => decide (x.1.place = p) && decide (x.2 ≠ d)

/-- What an accepted LOAD DOOR makes of the record, before the target is recomputed (R8). An unmapped record
keeps its last commanded by (log 29). -/
def Door.loaded (c : DoorConfig) (r : Door) : Door :=
  if c.place.isNone then { Door.blank c with lastBy := r.lastBy }
  else if c.place = r.place then
    { r with
      toDoorConfig := c, snapshot := if r.watched && !c.watched then none else r.snapshot }
  else { r with toDoorConfig := c }.forgotten

/-- R8: the record is replaced, the target recomputed and a change of it handed as CORRECTION. -/
def State.loadDoor (d : Nat) (c : DoorConfig) (s : State) : State :=
  ((s.onDoor d (Door.loaded c)).retarget d .correction false).driveRequestOf d

/-- LOAD_DOOR (R7, R8). -/
def execLoadDoor (tag : Nat) (req : LoadDoorReq) (s : State) : Host.Outcome State Fault Refusal :=
  .next (s.serve .notSaving tag 0x20 fun s =>
    if 503 < req.door then refuse .badIndex s
    else
      match LoadDoorReq.config req with
      | none => refuse .badValue s
      | some c =>
        if (s.entryOf req.door).isSome then refuse .inUse s
        else if s.conflicts req.door c.place then refuse .conflict s
        else ⟨s.loadDoor req.door c, .ok, []⟩)

/-! ### READ DOOR (R9) -/

/-- The trunk and node of a record, absent in an unmapped one (R9, R187). -/
def placeFields : Option Place → List Field
  | some p => [.n1 p.trunk, .n1 p.node]
  | none => [.absent 1, .absent 1]

/-- The snapshot, coded as the bolt and leaf byte of the door answer, or absent (R187, log 23). -/
def snapshotField : Option Snapshot → Field
  | some x => .n1 (boltLeafCode x.bolt x.leaf)
  | none => .absent 1

/-- Every field of a record in the order of R9, the door state coded as in the DOOR ANSWER body (R187). -/
def Door.data (r : Door) : List Field :=
  [.n1 r.place.isSome.toNat] ++ placeFields r.place ++
  [.n1 r.zone, .n1 r.lockClass, .n1 r.egress.toNat, .n1 r.guarded.toNat, .n1 r.watched.toNat,
    .n1 (overrideCode r.override), .n2 (expiryCode r.override), .n1 (boltLeafCode r.bolt r.leaf),
    .n1 r.tamper.toNat, .n1 (targetAgreementCode r.target r.agreement), .n1 r.agreement.reasonCode,
    snapshotField r.snapshot, .n1 r.alarms.code, .n1 r.lastBy.code]

/-- READ_DOOR (R9). -/
def execReadDoor (tag d : Nat) (s : State) : Host.Outcome State Fault Refusal :=
  .next (s.serve .notLoading tag 0x21 fun s =>
    if 503 < d then refuse .badIndex s else ⟨s, .ok, (s.door d).data⟩)

/-! ### LIST HELD-OUT (R181) -/

/-- The HELD-OUT mapped doors from a start number upward, ascending. -/
def State.heldOutFrom (s : State) (start : Nat) : List Nat :=
  (s.doorsWhere fun r => r.agreement.isHeldOut).filter fun d => decide (start ≤ d)

/-- A list of door numbers: a 1-byte count, then the numbers (R187). -/
def doorList (ds : List Nat) : List Field := .n1 ds.length :: ds.map .n2

/-- LIST_HELD_OUT (R181): at most 20 doors, and whether more follow. -/
def execListHeldOut (tag start : Nat) (s : State) : Host.Outcome State Fault Refusal :=
  .next (s.serve .notLoading tag 0x22 fun s =>
    if 503 < start then refuse .badIndex s
    else
      ⟨s, .ok, doorList ((s.heldOutFrom start).take 20) ++
        [.n1 (decide (20 < (s.heldOutFrom start).length)).toNat]⟩)

/-! ### ACK ALARM (R166) -/

/-- The alarm set without the kinds named. -/
def Alarms.without (k a : Alarms) : Alarms :=
  ⟨a.forced && !k.forced, a.keyed && !k.keyed, a.tamper && !k.tamper⟩

def Door.acknowledge (k : Alarms) (r : Door) : Door := { r with alarms := k.without r.alarms }

/-- The kinds leave the alarm sets of the doors named. -/
def State.acknowledge (ds : List Nat) (k : Alarms) (s : State) : State :=
  s.forEach ds fun d s => s.onDoor d (Door.acknowledge k)

/-- How many of the doors named have an alarm of the kinds. -/
def State.acknowledged (s : State) (ds : List Nat) (k : Alarms) : Nat :=
  (ds.filter fun d => decide (k.without (s.door d).alarms ≠ (s.door d).alarms)).length

/-- ACK_ALARM (R166). A request that fails both checks is answered BAD-INDEX (log 51). -/
def execAckAlarm (tag d kinds : Nat) (s : State) : Host.Outcome State Fault Refusal :=
  .next (s.serve .notLoading tag 0x23 fun s =>
    match doorsOf d, alarmKindsOf kinds with
    | none, _ => refuse .badIndex s
    | some _, none => refuse .badValue s
    | some ds, some k => ⟨s.acknowledge ds k, .ok, [.n2 (s.acknowledged ds k)]⟩)

/-! ### Zones (R4, R6) -/

/-- LOAD_ZONE (R4): the seven fields are replaced, and every zone is evaluated (R43). -/
def execLoadZone (tag : Nat) (req : LoadZoneReq) (s : State) : Host.Outcome State Fault Refusal :=
  .next (s.serve .notSaving tag 0x28 fun s =>
    if 63 < req.zone then refuse .badIndex s
    else
      match LoadZoneReq.config req with
      | none => refuse .badValue s
      | some c => ⟨(s.onZone req.zone fun r => { r with toZoneConfig := c }).reevaluate, .ok, []⟩)

/-- The pause start, an optional tenths-count value (R187). -/
def pauseField : Option Tenths → Field
  | some t => .n4 t.toNat
  | none => .absent 4

def Tallies.data (t : Tallies) : List Field :=
  [.n2 t.enqueued, .n2 t.confirmed, .n2 t.heldOut, .n2 t.skipped, .n2 t.unreachable, .n2 t.already]

/-- The data of READ ZONE, in the order of R6. -/
def State.zoneData (s : State) (z : Nat) : List Field :=
  let r := s.zone z
  [.n1 r.defaultState.code, .n1 r.rank, .n1 r.floor, .n1 r.step, .n1 r.retry, .n1 r.limit,
    .n1 r.settle.toNat, .n1 (scheduledCode r.scheduled), .n1 r.paused.isSome.toNat,
    pauseField r.paused, .n2 (s.outstanding z)] ++ r.tallies.data

/-- READ_ZONE (R6). -/
def execReadZone (tag z : Nat) (s : State) : Host.Outcome State Fault Refusal :=
  .next (s.serve .notLoading tag 0x29 fun s =>
    if 63 < z then refuse .badIndex s else ⟨s, .ok, s.zoneData z⟩)

/-! ### Lock classes (R5, R6) -/

/-- LOAD_CLASS (R5): 0 is clamped to 1. -/
def execLoadClass (tag cls cost time : Nat) (s : State) : Host.Outcome State Fault Refusal :=
  .next (s.serve .notSaving tag 0x30 fun s =>
    if 7 < cls then refuse .badIndex s
    else ⟨{ s with classes := s.classes.set cls (lockClassOf cost time) }, .ok, []⟩)

/-- READ_CLASS (R6). -/
def execReadClass (tag cls : Nat) (s : State) : Host.Outcome State Fault Refusal :=
  .next (s.serve .notLoading tag 0x31 fun s =>
    if 7 < cls then refuse .badIndex s
    else ⟨s, .ok, [.n1 (s.lockClass cls).cost, .n1 (s.lockClass cls).time]⟩)

end Sys2Proof.Machine
end

