-- ==== Sys2Proof/Machine/Power.lean ====
section
/-!
DEFINITION. Power, the backup domain and the clock's own events (chapter 02, R26 to R29, R185, R189):
POWER_ON, POWER_CUT, CRYSTAL_STOP, CRYSTAL_RESTART, BACKUP_SUPPLY_LOW, MINUTE_BOUNDARY,
TIME_VALUE_CATCH_UP.
-/

namespace Sys2Proof.Machine

/-- The main domain at its power-on values over what a power cut leaves: the backup domain, the crystal,
the levels of the HOLD pins, the external memory and the commands that wait (R25, R28, R189). -/
def State.cold (unit : Nat) (rateHigh : Bool) (s : State) : State :=
  { powered := true, crystal := s.crystal, minute := s.minute, second := s.second,
    tenths := s.tenths, backupValid := s.backupValid, clock := .unset, count := 0,
    evaluated := none, evaluator := .waiting, windows := .replicate 128 none, plan := 0,
    doors := .replicate 504 (.blank .unmapped), zones := .replicate 64 (.blank .default_),
    classes := .replicate 8 .default_, queue := [], gap := 20,
    trunks := s.trunks.mapIdx fun _ r => .blank .default_ r.hold, fireLine := false,
    fireLatch := false, fireCount := 0, unit := unit % 16, rateHigh := rateHigh, answers := [],
    saveAnswers := [], notices := [], noticeNumber := 0, resync := true, sending := none,
    answersInRow := 0, receiver := .idle, loader := .loading, memory := s.memory,
    pending := s.pending }

/-- R29: the Week Clock at power-on. -/
def State.restoreClock (s : State) : State :=
  if s.backupValid then { s with clock := .running }
  else { s with minute := 0, second := 0, tenths := 0, clock := .unset }.submit .clockUnset

/-- POWER_ON (R185, R189): the straps are sampled and table loading begins. -/
def execPowerOn (unit : Nat) (rateHigh : Bool) (s : State) : Host.Outcome State Fault Refusal :=
  .next (s.cold unit rateHigh).restoreClock

/-- POWER_CUT (R28, R192): the backup domain goes on; everything in the main domain is lost, a running save
with it. -/
def execPowerCut (s : State) : Host.Outcome State Fault Refusal :=
  .next { s.cold 15 true with powered := false }

/-- CRYSTAL_STOP (R28): the clock state stays as it was, the clock fields stand still. -/
def execCrystalStop (s : State) : Host.Outcome State Fault Refusal :=
  .next { s with crystal := false, backupValid := false }

/-- CRYSTAL_RESTART (R28). -/
def execCrystalRestart (s : State) : Host.Outcome State Fault Refusal :=
  .next { s with crystal := true }

/-- BACKUP_SUPPLY_LOW (R28). -/
def execBackupSupplyLow (s : State) : Host.Outcome State Fault Refusal :=
  .next { s with backupValid := false }

/-- The clock fields advance (R26, R28): the crystal runs, and the clock is RUNNING, or the part is in a power
cut, where the backup domain carries them on (log 9). -/
def State.isTicking (s : State) : Bool :=
  s.crystal && (!s.powered || decide (s.clock = .running))

/-- The clock fields at the start of the next minute of week (R26). -/
def State.nextMinute (s : State) : State :=
  { s with minute := (s.minute + 1) % 10080, second := 0, tenths := 0 }

/-- MINUTE_BOUNDARY (R26, R27). -/
def execMinuteBoundary (s : State) : Host.Outcome State Fault Refusal :=
  .next <|
    if s.isTicking then
      if s.powered then s.nextMinute.minuteReached s.nextMinute.minute else s.nextMinute
    else s

/-- The tenths-count values of an entry kept within reach (R26). -/
def State.catchUpEntry (s : State) (e : Entry) : Entry :=
  { e with
    due := s.catchUp e.due,
    phase :=
      match e.phase with
      | .issued a => .issued { a with issuedAt := s.catchUp a.issuedAt, limit := s.catchUp a.limit }
      | p => p }

/-- The poll dues of a node kept within reach (R26). -/
def State.catchUpNode (s : State) (n : Node) : Node :=
  { n with
    routineDue := n.routineDue.map s.catchUp, followUpDue := n.followUpDue.map s.catchUp,
    closeWatchDue := n.closeWatchDue.map s.catchUp, recoveryDue := n.recoveryDue.map s.catchUp }

/-- Every tenths-count value the part holds is kept within reach of the count (R26). -/
def State.catchUpAll (s : State) : State :=
  { s with
    queue := s.queue.map s.catchUpEntry,
    zones := s.zones.mapIdx fun _ z => { z with paused := z.paused.map s.catchUp },
    trunks := s.trunks.mapIdx fun _ r => { r with roster := r.roster.map s.catchUpNode } }

/-- TIME_VALUE_CATCH_UP (R26). -/
def execTimeValueCatchUp (s : State) : Host.Outcome State Fault Refusal := s.event State.catchUpAll

end Sys2Proof.Machine
end

