-- ==== Sys2Proof/Machine/Settings.lean ====
section
/-!
DEFINITION. The Settings Loader (chapter 11): LOADING_COMPLETE, SAVE_SETTINGS, SAVE_PAGE_WRITTEN,
SAVE_ACK_TIMEOUT.

The image is 56 pages of 64 bytes in table order. The manual gives its items and their order, not its bytes:
their layout is the model's (log 20), with no window split between two pages.
-/

namespace Sys2Proof.Machine

/-! ### The image's bytes (R188, R191, log 20) -/

def DoorConfig.bytes (c : DoorConfig) : List Byte :=
  let flags :=
    c.place.isSome.toNat + 2 * c.egress.toNat + 4 * c.guarded.toNat + 8 * c.watched.toNat
  match c.place with
  | some p => [u8 (flags + 16 * p.trunk), u8 p.node, u8 c.zone, u8 c.lockClass]
  | none => [u8 flags, 0#8, u8 c.zone, u8 c.lockClass]

def ZoneConfig.bytes (c : ZoneConfig) : List Byte :=
  [u8 c.defaultState.code, u8 c.rank, u8 c.floor, u8 c.step, u8 c.retry, u8 c.limit,
    u8 c.settle.toNat]

def LockClass.bytes (c : LockClass) : List Byte := [u8 c.cost, u8 c.time]

/-- A slot in 8 bytes, all zeros when it is EMPTY. -/
def windowBytes : Option Window → List Byte
  | none => List.replicate 8 0#8
  | some w =>
    [u8 (1 + 2 * w.action.code + 4 * w.single.toNat + 8 * w.matched.toNat), u8 (w.zone.getD 0xFF),
      w.plans] ++ u16 w.start ++ u16 w.length ++ [u8 w.priority]

def TrunkConfig.bytes (c : TrunkConfig) : List Byte :=
  [u8 c.enabled.toNat, u8 c.budget, u8 c.level, u8 c.day, u8 c.night, u8 c.shared.code]

/-- The image in table order: 3554 bytes, and zeros to the end of page 55. -/
def Image.bytes (i : Image) : List Byte :=
  i.doors.rows.flatMap DoorConfig.bytes ++ i.zones.rows.flatMap ZoneConfig.bytes ++
  i.classes.rows.flatMap LockClass.bytes ++ i.windows.rows.flatMap windowBytes ++
  [u8 i.plan, u8 i.gap] ++ i.trunks.rows.flatMap TrunkConfig.bytes ++ List.replicate 30 0#8

/-- The check over the image. -/
def Image.check (i : Image) : BitVec 16 := crc16 i.bytes

/-- The image is valid: the marker is set and the check agrees (R188). -/
def Memory.isValid (m : Memory) : Bool := m.marker && decide (m.image.check = m.check)

/-! ### Loading (R23, R189) -/

/-- A door record at power-on: an unmapped one, or a mapped one that is UNKNOWN (R1, R23). -/
def Door.fresh (c : DoorConfig) : Door :=
  { Door.blank c with agreement := if c.place.isSome then .unknown else .inStep }

/-- Every table takes the image's values; the targets follow from the latch and the scheduled states as they
stand (R23). -/
def State.loadTables (i : Image) (s : State) : State :=
  let s1 : State :=
    { s with
      doors := i.doors.mapIdx fun _ c => Door.fresh c,
      zones := i.zones.mapIdx fun _ c => Zone.blank c, classes := i.classes,
      windows := i.windows, plan := i.plan, gap := i.gap,
      trunks := s.trunks.mapIdx fun t r =>
        { r with toTrunkConfig := i.trunks.getD t .default_ } }
  { s1 with doors := s1.doors.mapIdx fun _ r => r.withTarget (s1.targetFor r) }

/-- Step 4 of R189: each enabled trunk takes a trunk reset; with none enabled start-up ends (R147, R190). -/
def State.beginRollCalls (s : State) : State :=
  (s.forEach (List.range 8) fun t s =>
    if (s.trunk t).enabled then s.resetTrunk t true else s).endStartUp

/-- Loading ends; a read that a transaction of it was not acknowledged, or an image that is not valid, gives
defaults in every table (R189). -/
def State.finishLoading (acknowledged : Bool) (s : State) : State :=
  let i := if acknowledged && s.memory.isValid then s.memory.image else .defaults
  { s.loadTables i with loader := .idle }.beginRollCalls

/-- LOADING_COMPLETE (R189). A part that is not LOADING has nothing to complete (log 7). -/
def execLoadingComplete (acknowledged : Bool) (s : State) : Host.Outcome State Fault Refusal :=
  s.event fun s => if s.loader = .loading then s.finishLoading acknowledged else s

/-! ### Saving (R176, R191, R192) -/

/-- SAVE_SETTINGS (R176, R191): BUSY, or the loader is SAVING and the marker is being cleared, without an answer
yet. An accepted one forms no answer now, so a full answer list does not discard it (log 18). -/
def execSaveSettings (tag : Nat) (s : State) : Host.Outcome State Fault Refusal :=
  s.event fun s =>
    if s.isLoaderBusy then s.serve .notSaving tag 0x04 (refuse .busy)
    else { s with loader := .saving tag .clearMarker }

/-- The page of the image that byte `offset` lies in. -/
def pageOf (offset : Nat) : Nat := offset / 64

/-- The records of a table of the image that begin in page `k` take their owner's values; the table begins at
byte `base`, each record `size` bytes long (R49, R191). -/
def copyRecords {α : Type} {n : Nat} (base size k : Nat) (owner stored : Table α n) : Table α n :=
  ⟨(stored.rows.zip owner.rows).mapIdx fun i x =>
      if pageOf (base + size * i) = k then x.2 else x.1,
    by
      rw [List.length_mapIdx, List.length_zip, stored.size, owner.size, Nat.min_self]⟩

/-- The working copy that the blocks hold of what the memory stores (R188). -/
def State.workingImage (s : State) : Image :=
  { doors := s.doors.mapIdx fun _ r => r.toDoorConfig,
    zones := s.zones.mapIdx fun _ r => r.toZoneConfig, classes := s.classes,
    windows := s.windows, plan := s.plan, gap := s.gap,
    trunks := s.trunks.mapIdx fun _ r => r.toTrunkConfig }

/-- The stored image with page `k` written: its records take the values their owners hold, and the other pages stay
as they were stored (R49, R191). -/
def Image.copyPage (k : Nat) (owner stored : Image) : Image :=
  { doors := copyRecords 0 4 k owner.doors stored.doors,
    zones := copyRecords 2016 7 k owner.zones stored.zones,
    classes := copyRecords 2464 2 k owner.classes stored.classes,
    windows := copyRecords 2480 8 k owner.windows stored.windows,
    plan := if pageOf 3504 = k then owner.plan else stored.plan,
    gap := if pageOf 3505 = k then owner.gap else stored.gap,
    trunks := copyRecords 3506 6 k owner.trunks stored.trunks }

/-- The image page `k` goes into the memory. -/
def State.writePage (k : Nat) (s : State) : State :=
  { s with memory := { s.memory with
    image := Image.copyPage k (owner := s.workingImage) (stored := s.memory.image) } }

/-- The answer of an ended save is formed: it joins the answer list, or waits in a place of its own while the
list is full (R174). -/
def State.answerSave (tag : Nat) (result : MgmtResult) (s : State) : State :=
  let a : Answer := .mgmt tag 0x04 result []
  if s.answers.length < 8 then s.answer a else { s with saveAnswers := s.saveAnswers ++ [a] }

/-- A page write of the save is acknowledged: the next page is written, or the save ends (R191). -/
def State.pageAcknowledged (s : State) : State :=
  match s.loader with
  | .saving tag .clearMarker =>
    { s with
      memory := { s.memory with marker := false }, loader := .saving tag (.page 0) }.writePage 0
  | .saving tag (.page k) =>
    if k < 55 then { s with loader := .saving tag (.page (k + 1)) }.writePage (k + 1)
    else { s with loader := .saving tag .setMarker }
  | .saving tag .setMarker =>
    { s with
      memory := { s.memory with marker := true, check := s.memory.image.check },
      loader := .idle }.answerSave tag .ok
  | _ => s

/-- SAVE_PAGE_WRITTEN (R191). -/
def execSavePageWritten (s : State) : Host.Outcome State Fault Refusal := s.event State.pageAcknowledged

/-- The save stops at the page that was not acknowledged (R192). -/
def State.stopSave (s : State) : State :=
  match s.loader with
  | .saving tag _ => { s with loader := .idle }.answerSave tag .failed
  | _ => s

/-- SAVE_ACK_TIMEOUT (R192). -/
def execSaveAckTimeout (s : State) : Host.Outcome State Fault Refusal := s.event State.stopSave

end Sys2Proof.Machine
end

