-- ==== Sys2Proof/Machine/SiteLink.lean ====
section
/-!
DEFINITION. The Site Link Port's own commands (chapter 10): SITE_FRAME_TIMEOUT, FRAME_DISCARDED,
FRAME_ABANDONED, UNKNOWN_FRAME_KIND, UNKNOWN_REQUEST_CODE, TRANSMIT_COMPLETE, READ_STATUS, CLEAR_RESYNC,
LINK_RESET.
-/

namespace Sys2Proof.Machine

/-! ### The receiver (R171, R172) -/

/-- SITE_FRAME_TIMEOUT (R171): the frame in progress is abandoned. -/
def execSiteFrameTimeout (s : State) : Host.Outcome State Fault Refusal :=
  s.event fun s => { s with receiver := .idle }

/-- FRAME_DISCARDED (R172): no answer, no notice, no trace. -/
def execFrameDiscarded (s : State) : Host.Outcome State Fault Refusal :=
  s.event fun s => { s with receiver := .idle }

/-- The receiver after a byte has abandoned the frame in progress (R171). -/
def receiverAfter : AbandonCause → Assembly
  | .framingError => .idle
  | .lengthAbove48 => .idle
  | .newStart => .inFrame [] false

/-- FRAME_ABANDONED (R171). -/
def execFrameAbandoned (cause : AbandonCause) (s : State) : Host.Outcome State Fault Refusal :=
  s.event fun s => { s with receiver := receiverAfter cause }

/-! ### Frames the port answers itself (R173) -/

/-- A frame the port answers BAD-REQUEST, with request code `code`. -/
def State.badRequest (tag code : Nat) (s : State) : State :=
  s.takeFrame (State.answer (.mgmt tag code .badRequest []))

/-- UNKNOWN_FRAME_KIND (R173). A kind the port dispatches is not one (log 7). -/
def execUnknownFrameKind (tag kind : Nat) (s : State) : Host.Outcome State Fault Refusal :=
  .next (if kind = 1 ∨ kind = 3 then s else s.badRequest tag 0)

/-- A ZONE SWEEP request whose action is none of the four (R92). Where the zone is bad too R92 gives no order, and the
model answers BAD-INDEX (log 54). -/
def State.badSweep (tag zone : Nat) (s : State) : State :=
  s.serve .notLoading tag 0x2A (refuse (if (zonesOf zone).isNone then .badIndex else .badValue))

/-- A MGMT REQUEST body that no request of the table spells. -/
def State.unknownRequest (tag : Nat) (body : List Byte) (s : State) : State :=
  match body.map BitVec.toNat with
  | [0x2A, zone, _] => s.badSweep tag zone
  | [] => s.badRequest tag 0
  | code :: _ => s.badRequest tag code

/-- UNKNOWN_REQUEST_CODE (R173): an empty body, an unknown code or a wrong length, and with them a ZONE SWEEP
of an unknown action (log 24). A body that spells a request is not one (log 7). -/
def execUnknownRequestCode (tag : Nat) (body : List Byte) (s : State) :
    Host.Outcome State Fault Refusal :=
  .next (if requestOf tag body = .unknownRequestCode tag body then s.unknownRequest tag body else s)

/-! ### The transmitter (R174, R175) -/

/-- The oldest answer's transmission begins; the answer of an ended save that waited joins the list. -/
def State.sendAnswer (a : Answer) (rest : List Answer) (s : State) : State :=
  { s with
    answers := rest ++ s.saveAnswers.take 1, saveAnswers := s.saveAnswers.drop 1,
    sending := some (a.line s.unit),
    answersInRow := if s.notices = [] then 0 else s.answersInRow + 1 }

/-- The oldest notice's transmission begins. -/
def State.sendNotice (n : NumberedNotice) (rest : List NumberedNotice) (s : State) : State :=
  { s with notices := rest, sending := some (n.line s.unit), answersInRow := 0 }

/-- The transmitter chooses the next frame (R175). -/
def State.transmitNext (s : State) : State :=
  match s.answers, s.notices with
  | [], [] => { s with sending := none, answersInRow := 0 }
  | [], n :: ns => s.sendNotice n ns
  | a :: as, [] => s.sendAnswer a as
  | a :: as, n :: ns => if 4 ≤ s.answersInRow then s.sendNotice n ns else s.sendAnswer a as

/-- TRANSMIT_COMPLETE (R175). -/
def execTransmitComplete (s : State) : Host.Outcome State Fault Refusal := s.event State.transmitNext

/-! ### READ STATUS (R179) -/

/-- A yes or no, or a flag (R187). -/
def Field.flag (b : Bool) : Field := .n1 b.toNat

/-- The data of READ STATUS, in the order of R179. -/
def State.statusData (s : State) : List Field :=
  [.n1 s.unit, .flag s.rateHigh, .flag s.resync, .n2 s.notices.length, .n1 s.noticeNumber,
    .flag s.isLoaderBusy, .flag s.isStarting, .n1 s.clock.code, .n1 s.evaluator.code, .n1 s.plan,
    .n2 s.queue.length, .n1 s.gap, .n1 (lineCode s.fireLine), .n1 (latchCode s.fireLatch),
    .n2 s.fireCount] ++
  (List.range 8).flatMap fun t => [.n1 (s.trunk t).state.code, .n1 (s.trunk t).ownership.code]

/-- READ_STATUS (R179). -/
def execReadStatus (tag : Nat) (s : State) : Host.Outcome State Fault Refusal :=
  .next (s.serve .always tag 0x01 fun s => ⟨s, .ok, s.statusData⟩)

/-! ### CLEAR RESYNC (R180) -/

/-- CLEAR_RESYNC (R180): the flag as it stood, the notices queued and the next number; then it is clear. -/
def execClearResync (tag : Nat) (s : State) : Host.Outcome State Fault Refusal :=
  .next (s.serve .always tag 0x02 fun s =>
    ⟨{ s with resync := false }, .ok,
      [.flag s.resync, .n2 s.notices.length, .n1 s.noticeNumber]⟩)

/-! ### LINK RESET (R24, R98, R126, R184) -/

/-- The Site Link Port's own part (R184, step 2). -/
def State.resetPort (s : State) : State :=
  { s with notices := [], resync := true, noticeNumber := 0, answersInRow := 0 }

/-- The Door Map's and the Sweep Queue's part (R24, R98). -/
def State.forgetAll (s : State) : State :=
  { s with
    doors := s.doors.mapIdx fun _ r => if r.place.isSome then r.forgotten else r,
    queue := [],
    zones := s.zones.mapIdx fun _ z => { z with paused := none, tallies := .zero } }

/-- The link reset (R184, steps 2 and 3). -/
def State.linkReset (s : State) : State :=
  s.resetPort.forgetAll.forEach (List.range 8) fun t s =>
    if (s.trunk t).state = .disabled then s else s.resetTrunk t true

/-- LINK_RESET (R184). -/
def execLinkReset (tag : Nat) (s : State) : Host.Outcome State Fault Refusal :=
  .next (s.serve .notSaving tag 0x03 fun s => ⟨s.linkReset, .ok, []⟩)

end Sys2Proof.Machine
end

