-- ==== Sys2Proof/Machine/TrunkEvents.lean ====
section
/-!
DEFINITION. The events on the trunks and the FIRE input (chapters 05, 06 and 07): SELECT_NEXT_TRANSACTION,
REPLY_RECEIVED, REPLY_WINDOW_CLOSE, BROADCAST_END, ABORT_TRAILER_SENT, ACTUATION_LIMIT, WAIT_CLOSE_DUE,
SUPPLY_SAMPLE, HOLD_ASSERTED, HOLD_NEGATED, SECOND_MASTER_FRAME, SNOOPED_REPLY, DUE_ARRIVING,
FIRE_ASSERTED, FIRE_NEGATED.
-/

namespace Sys2Proof.Machine

/-- SELECT_NEXT_TRANSACTION (R113). -/
def execSelectNextTransaction (t : Nat) (s : State) : Host.Outcome State Fault Refusal :=
  s.trunkEvent t (State.select t)

/-- REPLY_RECEIVED (R103, R104): `heard` are the bytes heard, the sync byte first. -/
def execReplyReceived (t : Nat) (heard : List Byte) (s : State) : Host.Outcome State Fault Refusal :=
  s.trunkEvent t (State.hearReply t heard)

/-- REPLY_WINDOW_CLOSE (R103). -/
def execReplyWindowClose (t : Nat) (s : State) : Host.Outcome State Fault Refusal :=
  s.trunkEvent t (State.closeWindow t)

/-- BROADCAST_END (R102). -/
def execBroadcastEnd (t : Nat) (s : State) : Host.Outcome State Fault Refusal :=
  s.trunkEvent t (State.endBroadcast t)

/-- ABORT_TRAILER_SENT (R117). -/
def execAbortTrailerSent (t : Nat) (s : State) : Host.Outcome State Fault Refusal :=
  s.trunkEvent t (State.endTrailer t)

/-- SUPPLY_SAMPLE (R118). -/
def execSupplySample (t v : Nat) (s : State) : Host.Outcome State Fault Refusal :=
  s.trunkEvent t (State.sampleSupply t v)

/-- SECOND_MASTER_FRAME (R133, R134). -/
def execSecondMasterFrame (t : Nat) (heard : List Byte) (s : State) :
    Host.Outcome State Fault Refusal :=
  s.trunkEvent t (State.hearMaster t heard)

/-- SNOOPED_REPLY (R133, R135). -/
def execSnoopedReply (t : Nat) (heard : List Byte) (s : State) : Host.Outcome State Fault Refusal :=
  s.trunkEvent t (State.hearSnooped t heard)

/-- DUE_ARRIVING (R130). -/
def execDueArriving (t : Nat) (s : State) : Host.Outcome State Fault Refusal :=
  s.trunkEvent t (State.driveRequest t)

/-! ### HOLD (R127, R128) -/

/-- The HOLD input of a trunk takes a level; an unpowered part does not act on it. -/
def State.holdLevel (t : Nat) (level : Bool) (f : State → State) (s : State) :
    Host.Outcome State Fault Refusal :=
  if t < 8 then
    let s1 := s.onTrunk t fun r => { r with hold := level }
    .next (if s.powered then f s1 else s1)
  else .fault .noSuchTrunk

/-- HOLD_ASSERTED (R128). -/
def execHoldAsserted (t : Nat) (s : State) : Host.Outcome State Fault Refusal :=
  s.holdLevel t true (State.yieldIfHeld t)

/-- HOLD_NEGATED (R128). -/
def execHoldNegated (t : Nat) (s : State) : Host.Outcome State Fault Refusal :=
  s.holdLevel t false (State.regainIfFree t)

/-! ### The times of an entry (R85, R86, R89, R136) -/

/-- An event on the entry of door `d`; there are 504 doors (R1). -/
def State.doorEvent (d : Nat) (f : State → State) (s : State) : Host.Outcome State Fault Refusal :=
  if d < 504 then .next (if s.powered then f s else s) else .fault .noSuchDoor

/-- An ISSUED entry's actuation limit passes on an owned trunk; an attempt that a yield has kept open past
its limit waits for its next follow-up result instead (R85, R136). The bolt last reported plays no part (log 44). -/
def State.limitPassed (d : Nat) (s : State) : State :=
  match s.entryOf d with
  | some e =>
    match e.phase with
    | .issued a =>
      if s.arrived a.limit && !s.isYielded (s.door d) && !a.grace then
        (s.endAttemptNow d e.target.limitEnd).driveRequestOf d
      else s
    | _ => s
  | none => s

/-- A WAIT-CLOSE entry's due arrives (R89). -/
def State.waitOver (d : Nat) (s : State) : State :=
  match s.entryOf d with
  | some e =>
    if e.phase = .waitClose ∧ s.arrived e.due = true then
      (s.putEntry { e with phase := .pending }).driveRequestOf d
    else s
  | none => s

/-- ACTUATION_LIMIT (R85, R86). -/
def execActuationLimit (d : Nat) (s : State) : Host.Outcome State Fault Refusal :=
  s.doorEvent d (State.limitPassed d)

/-- WAIT_CLOSE_DUE (R89). -/
def execWaitCloseDue (d : Nat) (s : State) : Host.Outcome State Fault Refusal :=
  s.doorEvent d (State.waitOver d)

/-! ### The FIRE line (R13, R138, R139) -/

/-- The latch sets: the count rises, the notice is submitted, every mapped egress door is handed RELEASED, in
ascending number (log 41), and the frames that may no longer go out are aborted (R13, R77, R138). The FIRE notice
stands before the DOOR STATUS notices (log 15). -/
def State.setLatch (s : State) : State :=
  let n := (s.fireCount + 1) % 65536
  let s1 := ({ s with fireLatch := true, fireCount := n }).submit (.fire true n)
  let s2 := s1.forEach (s1.doorsWhere fun r => r.egress) fun d s => s.retarget d .fire true
  s2.abortForFire.driveRequests

/-- The line state becomes ASSERTED (R138). -/
def State.assertFire (s : State) : State :=
  let s1 : State := { s with fireLine := true }
  if s.fireLatch then s1 else s1.setLatch

/-- FIRE_ASSERTED (R138). -/
def execFireAsserted (s : State) : Host.Outcome State Fault Refusal := s.event State.assertFire

/-- FIRE_NEGATED (R139): only the line state changes. -/
def execFireNegated (s : State) : Host.Outcome State Fault Refusal :=
  s.event fun s => { s with fireLine := false }

end Sys2Proof.Machine
end

