-- ==== Sys2Proof/Machine/TrunkRequests.lean ====
section
/-!
DEFINITION. The Trunk Controllers' requests (section 6.8): LOAD_TRUNK, READ_TRUNK, READ_ROSTER,
RESET_TRUNK.
-/

namespace Sys2Proof.Machine

/-! ### LOAD TRUNK (R120, R121, R132) -/

/-- An accepted LOAD TRUNK stores the six fields and acts by the change of the enabled field; unchanged, the
ownership machine takes the shared mode at once (R121, R132). -/
def State.loadTrunk (t : Nat) (c : TrunkConfig) (s : State) : State :=
  let s1 := s.onTrunk t fun r => { r with toTrunkConfig := c }
  match (s.trunk t).enabled, c.enabled with
  | false, true => s1.resetTrunk t false
  | true, false => s1.disableTrunk t
  | _, _ => ((s1.yieldIfHeld t).regainIfFree t).driveRequest t

/-- LOAD_TRUNK (R120). -/
def execLoadTrunk (tag : Nat) (req : LoadTrunkReq) (s : State) : Host.Outcome State Fault Refusal :=
  .next (s.serve .notSaving tag 0x48 fun s =>
    if 7 < req.trunk then refuse .badIndex s
    else
      match LoadTrunkReq.config req with
      | none => refuse .badValue s
      | some c =>
        if c.budget ≠ (s.trunk req.trunk).budget ∧ 0 < s.reserved req.trunk then refuse .notNow s
        else ⟨s.loadTrunk req.trunk c, .ok, []⟩)

/-! ### READ TRUNK (R122) -/

/-- The data of READ TRUNK, in the order of R122. -/
def State.trunkData (s : State) (t : Nat) : List Field :=
  let r := s.trunk t
  [.n1 r.enabled.toNat, .n1 r.budget, .n1 r.level, .n1 r.day, .n1 r.night, .n1 r.shared.code,
    .n1 r.state.code, .n1 r.ownership.code, .n1 r.polarity.code, .n1 r.rate.code,
    .n2 r.roster.length, .n2 (r.roster.filter Node.online).length, .n1 (s.reserved t),
    .n1 r.effectiveBudget, .n1 r.supply.code, .n2 r.measured, .n1 (requestCode r.request)]

/-- READ_TRUNK (R122). -/
def execReadTrunk (tag t : Nat) (s : State) : Host.Outcome State Fault Refusal :=
  .next (s.serve .notLoading tag 0x49 fun s =>
    if 7 < t then refuse .badIndex s else ⟨s, .ok, s.trunkData t⟩)

/-! ### READ ROSTER (R123) -/

/-- A roster record in 3 bytes: the address, the node kind, and rate, status and missed count (R187). -/
def Node.data (n : Node) : List Field :=
  [.n1 n.addr, .n1 n.kind, .n1 (n.maxRate.code + (if n.online then 0 else 4) + 8 * n.missed)]

/-- The roster records at or above an address. -/
def Trunk.rosterFrom (r : Trunk) (start : Nat) : List Node :=
  r.roster.filter fun n => decide (start ≤ n.addr)

/-- The data of READ ROSTER: the trunk state, at most 12 records as a list, and whether more follow. -/
def Trunk.rosterData (r : Trunk) (start : Nat) : List Field :=
  let records := (r.rosterFrom start).take 12
  [.n1 r.state.code, .n1 records.length] ++ records.flatMap Node.data ++
    [.n1 (decide (12 < (r.rosterFrom start).length)).toNat]

/-- READ_ROSTER (R123). -/
def execReadRoster (tag t start : Nat) (s : State) : Host.Outcome State Fault Refusal :=
  .next (s.serve .notLoading tag 0x4A fun s =>
    if 7 < t then refuse .badIndex s
    else if start < 1 ∨ 63 < start then refuse .badValue s
    else ⟨s, .ok, (s.trunk t).rosterData start⟩)

/-! ### RESET TRUNK (R124) -/

/-- RESET_TRUNK (R124). -/
def execResetTrunk (tag t : Nat) (s : State) : Host.Outcome State Fault Refusal :=
  .next (s.serve .notLoading tag 0x4B fun s =>
    if 7 < t then refuse .badIndex s
    else if (s.trunk t).state = .disabled then refuse .notNow s
    else ⟨s.resetTrunk t false, .ok, []⟩)

end Sys2Proof.Machine
end

