-- ==== Sys2Proof/Machine/Windows.lean ====
section
/-!
DEFINITION. The Schedule Evaluator's requests (R36 to R39): LOAD_WINDOW, DELETE_WINDOW, READ_WINDOW,
SELECT_PLAN.
-/

namespace Sys2Proof.Machine

/-- A slot takes a window, or becomes EMPTY, and every zone is evaluated (R36, R37, R43). -/
def State.putWindow (slot : Nat) (w : Option Window) (s : State) : State :=
  { s with windows := s.windows.set slot w }.reevaluate

/-- LOAD_WINDOW (R36). -/
def execLoadWindow (tag : Nat) (req : LoadWindowReq) (s : State) : Host.Outcome State Fault Refusal :=
  .next (s.serve .notSaving tag 0x38 fun s =>
    if 127 < req.slot then refuse .badIndex s
    else
      match LoadWindowReq.window req with
      | none => refuse .badValue s
      | some w => ⟨s.putWindow req.slot (some w), .ok, []⟩)

/-- DELETE_WINDOW (R37). -/
def execDeleteWindow (tag slot : Nat) (s : State) : Host.Outcome State Fault Refusal :=
  .next (s.serve .notSaving tag 0x39 fun s =>
    if 127 < slot then refuse .badIndex s else ⟨s.putWindow slot none, .ok, []⟩)

/-- A slot's state, 0 EMPTY or 1 IN-USE, and the fields of R35, absent in an EMPTY slot (R38, R187). -/
def windowData : Option Window → List Field
  | some w =>
    [.n1 1, .n1 (w.zone.getD 0xFF), .n1 w.plans.toNat, .n2 w.start, .n2 w.length, .n1 w.action.code,
      .n1 w.priority, .n1 w.single.toNat, .n1 w.matched.toNat]
  | none =>
    [.n1 0, .absent 1, .absent 1, .absent 2, .absent 2, .absent 1, .absent 1, .absent 1, .absent 1]

/-- READ_WINDOW (R38). -/
def execReadWindow (tag slot : Nat) (s : State) : Host.Outcome State Fault Refusal :=
  .next (s.serve .notLoading tag 0x3A fun s =>
    if 127 < slot then refuse .badIndex s else ⟨s, .ok, windowData (s.windows.getD slot none)⟩)

/-- SELECT_PLAN (R39): OK with the plan before and the plan now. -/
def execSelectPlan (tag plan : Nat) (s : State) : Host.Outcome State Fault Refusal :=
  .next (s.serve .notSaving tag 0x3B fun s =>
    if 7 < plan then refuse .badValue s
    else ⟨{ s with plan := plan }.reevaluate, .ok, [.n1 s.plan, .n1 plan]⟩)

end Sys2Proof.Machine
end

