-- ==== Sys2Proof/Machine/ZoneSweep.lean ====
section
/-!
DEFINITION. The Sweep Queue's requests (R61, R92 to R96) and the clearing of the fire latch (R14, R140,
R141): ZONE_SWEEP_PAUSE, ZONE_SWEEP_RESUME, ZONE_SWEEP_CANCEL, ZONE_SWEEP_RESWEEP, SET_BATCH_GAP,
CLEAR_FIRE.
-/

namespace Sys2Proof.Machine

/-- A ZONE SWEEP request: BAD-INDEX for a zone that is neither in 0 to 63 nor ALL, and OK with a count
(R92). -/
def State.sweepRequest (tag zone : Nat) (f : List Nat → State → State × Nat) (s : State) : State :=
  s.serve .notLoading tag 0x2A fun s =>
    match zonesOf zone with
    | none => refuse .badIndex s
    | some zs => ⟨(f zs s).1.driveRequests, .ok, [.n2 (f zs s).2]⟩

/-! ### PAUSE and RESUME (R93, R94) -/

/-- The pause start is now, unless the zone is paused already. -/
def Zone.pauseAt (now : Tenths) (r : Zone) : Zone :=
  { r with paused := some (r.paused.getD now) }

/-- R93: the zones pause; the count is of those that were not paused. -/
def State.pauseZones (zs : List Nat) (s : State) : State × Nat :=
  (s.forEach zs fun z s => s.onZone z (Zone.pauseAt s.count),
    (zs.filter fun z => (s.zone z).paused.isNone).length)

/-- A due moved later by the time since the pause start, at most 65,535 tenths after the count (R94). -/
def State.movedDue (s : State) (start due : Tenths) : Tenths :=
  if 65535 < s.since start - s.since due then s.after 65535 else due + (s.count - start)

/-- An entry that a resume of its zone moves: PENDING or WAIT-CLOSE, of an origin that the pause held. -/
def State.isMoved (s : State) (z : Nat) (e : Entry) : Bool :=
  decide ((s.door e.door).zone = z) && e.origin.isHeldByPause && !e.isIssued

/-- R94: a paused zone resumes. -/
def State.resumeZone (z : Nat) (s : State) : State :=
  match (s.zone z).paused with
  | none => s
  | some start =>
    ({ s with
      queue := s.queue.map fun e =>
        if s.isMoved z e then { e with due := s.movedDue start e.due } else e }).onZone z
      fun r => { r with paused := none }

/-- R94: the zones resume; the count is of those that were paused. -/
def State.resumeZones (zs : List Nat) (s : State) : State × Nat :=
  (s.forEach zs State.resumeZone, (zs.filter fun z => (s.zone z).paused.isSome).length)

/-! ### CANCEL (R95) -/

/-- The doors whose entry a cancel of zone `z` removes, in the order of the list (log 15). -/
def State.cancelled (s : State) (z : Nat) : List Nat := (s.queue.filter (s.isMoved z)).map Entry.door

/-- R95: a zone's entries are removed without a tally, each reported, and the zone settles. The doors are reported
in the order of the queue's list, and a cancel of ALL zone by zone; the spec gives no order (log 15). -/
def State.cancelZone (z : Nat) (s : State) : State :=
  (s.forEach (s.cancelled z) fun d s' =>
    (s'.removeEntry d .cancelled none).reportDoor d s' false).settleZone z s

/-- R95: the zones are cancelled; the count is of the entries removed. -/
def State.cancelZones (zs : List Nat) (s : State) : State × Nat :=
  (s.forEach zs State.cancelZone, (zs.flatMap s.cancelled).length)

/-! ### RESWEEP (R57, R96) -/

/-- The HELD-OUT and DEFERRED mapped doors of zone `z`. -/
def State.putAside (s : State) (z : Nat) : List Nat :=
  s.doorsWhere fun r => decide (r.zone = z) && r.agreement.isPutAside

/-- The zones of a RESWEEP: the one named, or for ALL those that hold such a door (R53). -/
def State.resweepZones (s : State) (zs : List Nat) : List Nat :=
  match zs with
  | [z] => [z]
  | zs => zs.filter fun z => !(s.putAside z).isEmpty

/-- R96: the RESWEEP batch; the count is of the doors enqueued. -/
def State.resweep (zs : List Nat) (s : State) : State × Nat :=
  let zones := s.resweepZones zs
  let s1 := s.formBatch .resweep zones
    (s.doorsWhere fun r => zones.contains r.zone && r.agreement.isPutAside)
  (s1, s1.enqueued zones)

/-- ZONE_SWEEP_PAUSE (R92, R93). -/
def execZoneSweepPause (tag zone : Nat) (s : State) : Host.Outcome State Fault Refusal :=
  .next (s.sweepRequest tag zone State.pauseZones)

/-- ZONE_SWEEP_RESUME (R92, R94). -/
def execZoneSweepResume (tag zone : Nat) (s : State) : Host.Outcome State Fault Refusal :=
  .next (s.sweepRequest tag zone State.resumeZones)

/-- ZONE_SWEEP_CANCEL (R92, R95). -/
def execZoneSweepCancel (tag zone : Nat) (s : State) : Host.Outcome State Fault Refusal :=
  .next (s.sweepRequest tag zone State.cancelZones)

/-- ZONE_SWEEP_RESWEEP (R92, R96). -/
def execZoneSweepResweep (tag zone : Nat) (s : State) : Host.Outcome State Fault Refusal :=
  .next (s.sweepRequest tag zone State.resweep)

/-! ### SET BATCH GAP (R61) -/

/-- SET_BATCH_GAP (R61): OK with the gap before and the gap now. -/
def execSetBatchGap (tag gap : Nat) (s : State) : Host.Outcome State Fault Refusal :=
  .next (s.serve .notSaving tag 0x40 fun s =>
    if 255 < gap then refuse .badValue s else ⟨{ s with gap := gap }, .ok, [.n1 s.gap, .n1 gap]⟩)

/-! ### CLEAR FIRE (R14, R140, R141) -/

/-- The doors whose target a clear of the latch has changed, of those in the list (R14). -/
def State.changedTargets (s before : State) (ds : List Nat) : List Nat :=
  ds.filter fun d => decide ((s.door d).target ≠ (before.door d).target)

/-- R14, R140: the latch clears, the egress doors are recomputed, and those whose target changed form the
restoration batch, with the zones that hold one. -/
def State.releaseLatch (s : State) : State :=
  let s1 := ({ s with fireLatch := false }).submit (.fire false s.fireCount)
  let egress := s1.doorsWhere fun r => r.egress
  let s2 := s1.forEach egress State.storeTarget
  let changed := s2.changedTargets s1 egress
  let zones := (List.range 64).filter fun z => changed.any fun d => decide ((s2.door d).zone = z)
  (s2.formBatch .restore zones changed).driveRequests

/-- R141: the latch clears and at once sets again; only the count and the notice show it. -/
def State.relatch (s : State) : State :=
  let n := (s.fireCount + 1) % 65536
  ({ s with fireCount := n }).submit (.fire true n)

/-- What CLEAR FIRE does, and its result (R140). -/
def State.clearFire (s : State) : State × MgmtResult :=
  if s.fireLatch then
    if s.fireLine then (s.relatch, .fireStillActive) else (s.releaseLatch, .ok)
  else (s, .ok)

/-- The latch, the line state and the count, as CLEAR FIRE answers them (R140). -/
def State.fireData (s : State) : List Field :=
  [.n1 (latchCode s.fireLatch), .n1 (lineCode s.fireLine), .n2 s.fireCount]

/-- CLEAR_FIRE (R140, R141). -/
def execClearFire (tag : Nat) (s : State) : Host.Outcome State Fault Refusal :=
  .next (s.serve .notLoading tag 0x50 fun s =>
    ⟨s.clearFire.1, s.clearFire.2, s.clearFire.1.fireData⟩)

end Sys2Proof.Machine
end

