-- ==== Sys2Proof/Machine/Dispatch.lean ====
section
/-! DEFINITION. The dispatch: one arm per command, each a call of that command's meaning. -/

namespace Sys2Proof.Machine

def exec (i : Instr) (s : State) : Host.Outcome State Fault Refusal :=
  match i with
  | .powerOn unit rateHigh => Sys2Proof.Machine.execPowerOn unit rateHigh s
  | .loadingComplete acknowledged => Sys2Proof.Machine.execLoadingComplete acknowledged s
  | .minuteBoundary => Sys2Proof.Machine.execMinuteBoundary s
  | .timeValueCatchUp => Sys2Proof.Machine.execTimeValueCatchUp s
  | .crystalStop => Sys2Proof.Machine.execCrystalStop s
  | .crystalRestart => Sys2Proof.Machine.execCrystalRestart s
  | .backupSupplyLow => Sys2Proof.Machine.execBackupSupplyLow s
  | .selectNextTransaction trunk => Sys2Proof.Machine.execSelectNextTransaction trunk s
  | .replyReceived trunk frame => Sys2Proof.Machine.execReplyReceived trunk frame s
  | .replyWindowClose trunk => Sys2Proof.Machine.execReplyWindowClose trunk s
  | .broadcastEnd trunk => Sys2Proof.Machine.execBroadcastEnd trunk s
  | .abortTrailerSent trunk => Sys2Proof.Machine.execAbortTrailerSent trunk s
  | .actuationLimit door => Sys2Proof.Machine.execActuationLimit door s
  | .waitCloseDue door => Sys2Proof.Machine.execWaitCloseDue door s
  | .supplySample trunk decivolts => Sys2Proof.Machine.execSupplySample trunk decivolts s
  | .holdAsserted trunk => Sys2Proof.Machine.execHoldAsserted trunk s
  | .holdNegated trunk => Sys2Proof.Machine.execHoldNegated trunk s
  | .secondMasterFrame trunk frame => Sys2Proof.Machine.execSecondMasterFrame trunk frame s
  | .snoopedReply trunk frame => Sys2Proof.Machine.execSnoopedReply trunk frame s
  | .fireAsserted => Sys2Proof.Machine.execFireAsserted s
  | .fireNegated => Sys2Proof.Machine.execFireNegated s
  | .siteFrameTimeout => Sys2Proof.Machine.execSiteFrameTimeout s
  | .frameDiscarded => Sys2Proof.Machine.execFrameDiscarded s
  | .unknownFrameKind tag kind => Sys2Proof.Machine.execUnknownFrameKind tag kind s
  | .unknownRequestCode tag body => Sys2Proof.Machine.execUnknownRequestCode tag body s
  | .transmitComplete => Sys2Proof.Machine.execTransmitComplete s
  | .doorCommandInvalid tag body => Sys2Proof.Machine.execDoorCommandInvalid tag body s
  | .release c => Sys2Proof.Machine.execRelease c s
  | .lock c => Sys2Proof.Machine.execLock c s
  | .pulse c => Sys2Proof.Machine.execPulse c s
  | .query c => Sys2Proof.Machine.execQuery c s
  | .cancelOverride c => Sys2Proof.Machine.execCancelOverride c s
  | .readStatus tag => Sys2Proof.Machine.execReadStatus tag s
  | .clearResync tag => Sys2Proof.Machine.execClearResync tag s
  | .linkReset tag => Sys2Proof.Machine.execLinkReset tag s
  | .saveSettings tag => Sys2Proof.Machine.execSaveSettings tag s
  | .savePageWritten => Sys2Proof.Machine.execSavePageWritten s
  | .saveAckTimeout => Sys2Proof.Machine.execSaveAckTimeout s
  | .setTime tag minute second => Sys2Proof.Machine.execSetTime tag minute second s
  | .readTime tag => Sys2Proof.Machine.execReadTime tag s
  | .loadDoor tag req => Sys2Proof.Machine.execLoadDoor tag req s
  | .readDoor tag door => Sys2Proof.Machine.execReadDoor tag door s
  | .listHeldOut tag start => Sys2Proof.Machine.execListHeldOut tag start s
  | .ackAlarm tag door kinds => Sys2Proof.Machine.execAckAlarm tag door kinds s
  | .loadZone tag req => Sys2Proof.Machine.execLoadZone tag req s
  | .readZone tag zone => Sys2Proof.Machine.execReadZone tag zone s
  | .zoneSweepPause tag zone => Sys2Proof.Machine.execZoneSweepPause tag zone s
  | .zoneSweepResume tag zone => Sys2Proof.Machine.execZoneSweepResume tag zone s
  | .zoneSweepCancel tag zone => Sys2Proof.Machine.execZoneSweepCancel tag zone s
  | .zoneSweepResweep tag zone => Sys2Proof.Machine.execZoneSweepResweep tag zone s
  | .loadClass tag cls cost time => Sys2Proof.Machine.execLoadClass tag cls cost time s
  | .readClass tag cls => Sys2Proof.Machine.execReadClass tag cls s
  | .loadWindow tag req => Sys2Proof.Machine.execLoadWindow tag req s
  | .deleteWindow tag slot => Sys2Proof.Machine.execDeleteWindow tag slot s
  | .readWindow tag slot => Sys2Proof.Machine.execReadWindow tag slot s
  | .selectPlan tag plan => Sys2Proof.Machine.execSelectPlan tag plan s
  | .setBatchGap tag gap => Sys2Proof.Machine.execSetBatchGap tag gap s
  | .loadTrunk tag req => Sys2Proof.Machine.execLoadTrunk tag req s
  | .readTrunk tag trunk => Sys2Proof.Machine.execReadTrunk tag trunk s
  | .readRoster tag trunk start => Sys2Proof.Machine.execReadRoster tag trunk start s
  | .resetTrunk tag trunk => Sys2Proof.Machine.execResetTrunk tag trunk s
  | .clearFire tag => Sys2Proof.Machine.execClearFire tag s
  | .dueArriving trunk => Sys2Proof.Machine.execDueArriving trunk s
  | .frameAbandoned cause => Sys2Proof.Machine.execFrameAbandoned cause s
  | .powerCut => Sys2Proof.Machine.execPowerCut s

end Sys2Proof.Machine
end

