-- ==== Sys2Proof/Machine/Step.lean ====
section
/-!
DEFINITION. One step of the part: the command at the front of the queue of waiting commands, or, when none
waits, one tenth of a second that passes.
-/

namespace Sys2Proof.Machine

/-- The clock fields one tenth later, within the minute; at 59.9 s they hold until MINUTE_BOUNDARY, the command
that takes the carry (R26, log 6). -/
def State.tickClock (s : State) : State :=
  if s.isTicking then
    if s.tenths < 9 then { s with tenths := s.tenths + 1 }
    else if s.second < 59 then { s with second := s.second + 1, tenths := 0 }
    else s
  else s

/-- A frame to a node that is still on the line has ended within the tenth, and its reply window is open
(R102, log 10). -/
def Transaction.tick (x : Transaction) : Transaction :=
  if x.phase = .frame ∧ x.command.addr.isSome = true then { x with phase := .window } else x

/-- The waits for snooped replies age: one that a tick has found before is longer ago than the 50 ms of R133
(log 26). -/
def agedSnoops (ws : List Snoop) : List Snoop :=
  (ws.filter fun w => !w.aged).map fun w => { w with aged := true }

/-- One tenth on a trunk. -/
def Trunk.tick (r : Trunk) : Trunk :=
  { r with transaction := r.transaction.map Transaction.tick, snoops := agedSnoops r.snoops }

/-- One tenth passes (R26; log 5): the tenths count advances while the part is powered. -/
def State.tick (s : State) : State :=
  if s.powered then
    { s.tickClock with count := s.count + 1, trunks := s.trunks.mapIdx fun _ r => r.tick }
  else s.tickClock

/-- One step. -/
def step (s : State) : Host.Outcome State Fault Refusal :=
  match s.pending with
  | [] => .next s.tick
  | c :: rest => exec c { s with pending := rest }

/-- The command that a word of the table spells, in front of the queue: no word spells one. -/
def State.withFetchWord (s : State) (nbits w : Nat) : State :=
  match decodeTableWord nbits w with
  | some c => { s with pending := c :: s.pending }
  | none => s

end Sys2Proof.Machine
end

