-- ==== Sys2Proof/Safety.lean ====
section
/-!
DEFINITION. What the part promises of every run: the limits of its lists, the tie between a door's agreement
and the sweep queue, the effective targets, the order of the rosters, the budgets.
-/

namespace Sys2Proof.Machine

/-- The limits of the Site Link Port: 8 answers, 64 notices, a 1-byte notice number, at most four answers in
front of a notice, and a save's answer waits outside only a full list (R174, R175, R182, R183). -/
def SiteInv (s : State) : Prop :=
  s.answers.length ≤ 8 ∧ s.notices.length ≤ 64 ∧ s.noticeNumber < 256 ∧ s.answersInRow ≤ 4 ∧
  (s.saveAnswers ≠ [] → s.answers.length = 8)

/-- The record is the unmapped record of R1, whatever its configuration and its last commander. -/
def Door.isBlank (r : Door) : Prop := r = { Door.blank r.toDoorConfig with lastBy := r.lastBy }

/-- R1, R16, R69: at most one entry a door; every entry's door is mapped; a mapped door is QUEUED exactly
while it has an entry; an unmapped record is blank; while the tables are being loaded no door is mapped. -/
def QueueInv (s : State) : Prop :=
  (s.queue.map Entry.door).Nodup ∧
  (∀ e ∈ s.queue, e.door < 504 ∧ (s.door e.door).place.isSome = true) ∧
  (∀ d, d < 504 → (s.door d).place.isSome = true →
    ((s.door d).agreement = .queued ↔ (s.entryOf d).isSome = true)) ∧
  (∀ d, d < 504 → (s.door d).place = none → (s.door d).isBlank) ∧
  (s.loader = .loading → ∀ d, d < 504 → (s.door d).place = none)

/-- R10: the stored effective target of every door is the one its inputs give. -/
def TargetInv (s : State) : Prop :=
  ∀ d, d < 504 → (s.door d).target = s.targetFor (s.door d)

/-- R110: a roster ascends strictly and its addresses are 1 to 63; the roll call asks such addresses only. -/
def Trunk.rosterInv (r : Trunk) : Prop :=
  (r.roster.map Node.addr).Pairwise (· < ·) ∧
  (∀ n ∈ r.roster, 1 ≤ n.addr ∧ n.addr ≤ 63) ∧
  (∀ a, r.rollStep = .roll a → 1 ≤ a ∧ a ≤ 63) ∧
  (∀ x, r.transaction = some x → x.purpose = .rollCall →
    ∃ a, x.command.addr = some a ∧ 1 ≤ a ∧ a ≤ 63)

/-- Every trunk's roster keeps R110. -/
def RosterInv (s : State) : Prop := ∀ t, t < 8 → (s.trunk t).rosterInv

/-- R80: a trunk's reserved units stay within its configured budget, unless a single ISSUED entry holds the
trunk's only reservation. -/
def State.isWithinBudget (s : State) (t : Nat) : Prop :=
  s.reserved t ≤ (s.trunk t).budget ∨
  (s.queue.filter fun e => (s.door e.door).isOn t && e.isIssued).length ≤ 1

/-- R5, R68, R80, R100: every trunk is within its budget; costs, reservations and budgets are at least 1, in
the part and in the stored image; nothing is queued while the tables are being loaded. -/
def BudgetInv (s : State) : Prop :=
  (∀ t, t < 8 → s.isWithinBudget t ∧ 1 ≤ (s.trunk t).budget) ∧
  (∀ e ∈ s.queue, e.isIssued = true → 1 ≤ e.reserved) ∧
  (∀ c ∈ s.classes.rows, 1 ≤ c.cost) ∧
  (∀ c ∈ s.memory.image.classes.rows, 1 ≤ c.cost) ∧
  (∀ c ∈ s.memory.image.trunks.rows, 1 ≤ c.budget) ∧
  (s.loader = .loading → s.queue = [])

/-- R25, R26: the clock fields in their ranges, and all 0 while the clock is UNSET. -/
def ClockInv (s : State) : Prop :=
  s.minute < 10080 ∧ s.second < 60 ∧ s.tenths < 10 ∧
  (s.powered = true → s.clock = .unset → s.minute = 0 ∧ s.second = 0 ∧ s.tenths = 0)

/-- The part takes a site frame: it is powered, and the answer list has a place (R28, R174). -/
def State.takes (s : State) : Prop := s.powered = true ∧ s.answers.length < 8

/-- Every management request is dispatched: the part takes frames and neither loads nor saves (R176, R189). -/
def State.serves (s : State) : Prop := s.takes ∧ s.loader = .idle

/-- A trunk of a powered part that is RUNNING, start-up over. -/
def State.runs (s : State) (t : Nat) : Prop :=
  s.powered = true ∧ t < 8 ∧ (s.trunk t).state = .running ∧ s.evaluator = .active

/-- R190: until start-up has ended, the starting window is open. -/
def StartInv (s : State) : Prop := s.powered = true → s.evaluator = .waiting → s.isStarting = true

/-- The bytes heard on trunk `n` are the accepted reply `o` to a transaction of purpose `p` with the node of door
`d`, on a RUNNING trunk that HOLD does not hold (R103, R104). -/
def State.hears (s : State) (n : Nat) (p : Purpose) (d : Nat) (bs : List Byte) (o : Status) : Prop :=
  s.runs n ∧ (s.trunk n).ownership = .driving ∧ (s.trunk n).isHeld = false ∧
  ∃ (x : Transaction) (a : Nat) (inverted : Bool), (s.trunk n).transaction = some x ∧ x.purpose = p ∧
    x.command.addr = some a ∧ x.phase ≠ .trailer ∧ x.spoiled = false ∧
    acceptStatus (s.trunk n).polarity a bs = some (inverted, o) ∧ s.doorAt n a = some d

/-- The rate that a roll call chooses: the lowest maximum rate of the roster, or 9600 when it is empty (R109). -/
def Trunk.chooses (r : Trunk) (x : Rate) : Prop :=
  (r.roster = [] ∧ x = .r9600) ∨
  ((∀ m ∈ r.roster, x.code ≤ m.maxRate.code) ∧ ∃ m ∈ r.roster, x = m.maxRate)

/-- From `s`, the ROLL of address `a` has ended on trunk `n`, which stands as in `t` (R107, R109, R129): the next ROLL
or the closing broadcast is on the line, or waits for HOLD, or the trunk is RUNNING at 9600. -/
def State.rolled (s t : State) (n a : Nat) : Prop :=
  let r := t.trunk n
  let held := (s.trunk n).isHeld
  let goesOn (step : RollStep) (c : TrunkCommand) (p : Purpose) : Prop :=
    r.state = .rollCall ∧ r.rollStep = step ∧
    if held = true then r.ownership = .yielded ∧ r.transaction = none
    else r.ownership = .driving ∧ r.transaction = some ⟨c, p, .r9600, .frame, false⟩
  (a < 63 → goesOn (.roll (a + 1)) (.roll (a + 1)) .rollCall) ∧
  (a = 63 → ∀ x, r.chooses x →
    if x = .r9600 then
      r.state = .running ∧ r.startCall = false ∧ r.rate = .r9600 ∧ r.transaction = none ∧
      r.ownership = (if held = true then .yielded else .idleOwner) ∧
      ∀ m ∈ r.roster, m.routineDue = some (s.after (s.routinePeriod n m.addr))
    else goesOn .close (.rate x) .rollClose)

/-- The notices of a roll call's command that left trunk `n` as it stands: roll call done when it is RUNNING, then
yielded when it is YIELDED (R109, R131, log 15). -/
def State.rollNotices (t : State) (n : Nat) : List Notice :=
  (if (t.trunk n).state = .running then [.trunk n .rollCallDone] else []) ++
  if (t.trunk n).ownership = .yielded then [.trunk n .yielded] else []

/-- Notices with their numbers, from `k` on (R182). -/
def numbered (k : Nat) : List Notice → List NumberedNotice
  | [] => []
  | n :: ns => ⟨k, n⟩ :: numbered ((k + 1) % 256) ns

/-- The notice queue once the notices given have joined it, where it has the places (R182, R183). -/
def State.told (s : State) (ns : List Notice) : List NumberedNotice :=
  s.notices ++ numbered s.noticeNumber ns

/-- The DOOR STATUS notice with the fields of door `d` as they stand (R22). -/
def State.statusNotice (s : State) (d : Nat) : Notice :=
  .doorStatus d (s.door d).bolt (s.door d).leaf (s.door d).target (s.door d).agreement (s.door d).alarms
    (s.door d).lastBy

/-- The ZONE SETTLED notice of zone `z`, if its batch-outstanding count has fallen to 0 since `before` and it asks
for the notice (R66). -/
def State.settledNotices (s before : State) (z : Nat) : List Notice :=
  if 0 < before.outstanding z ∧ s.outstanding z = 0 ∧ (s.zone z).settle = true then
    [.zoneSettled z (s.zone z).scheduled (s.zone z).tallies]
  else []

/-- What the external memory stores of the working tables but for the window table (R188, R191). -/
def State.storedTables (s : State) :
    List DoorConfig × List ZoneConfig × List LockClass × Nat × Nat × List TrunkConfig :=
  (s.doors.rows.map Door.toDoorConfig, s.zones.rows.map Zone.toZoneConfig, s.classes.rows, s.plan,
    s.gap, s.trunks.rows.map Trunk.toTrunkConfig)

end Sys2Proof.Machine
end

