-- ==== Sys2Proof/WellFormed.lean ====
section
/-!
DEFINITION. Which commands can occur: operands that fit the fields that carry them (R186, R187), units the
part has (R1, R100, R185), and a name that agrees with the frame it stands for (R146, R173). The meanings
take any command; this says which of them a sender can send.
-/

namespace Sys2Proof

/-- A 1-byte field. -/
def isByte (n : Nat) : Bool := decide (n < 256)

/-- A 2-byte field. -/
def isHalf (n : Nat) : Bool := decide (n < 65536)

/-- A trunk of the part (R100). -/
def isTrunk (n : Nat) : Bool := decide (n < 8)

/-- A door of the part (R1). -/
def isDoor (n : Nat) : Bool := decide (n < 504)

/-- A body that a site frame can carry (R171). -/
def isBody (body : List Byte) : Bool := decide (body.length ≤ 48)

def DoorCmd.isWellFormed (c : DoorCmd) : Bool :=
  isByte c.tag && isHalf c.door && isByte c.cls && isHalf c.duration && isByte c.pulse

def LoadDoorReq.isWellFormed (r : LoadDoorReq) : Bool :=
  isHalf r.door && isByte r.mapped && isByte r.trunk && isByte r.node && isByte r.zone &&
  isByte r.lockClass && isByte r.egress && isByte r.guarded && isByte r.watched

def LoadZoneReq.isWellFormed (r : LoadZoneReq) : Bool :=
  isByte r.zone && isByte r.defaultState && isByte r.rank && isByte r.floor && isByte r.step &&
  isByte r.retry && isByte r.limit && isByte r.settle

def LoadWindowReq.isWellFormed (r : LoadWindowReq) : Bool :=
  isByte r.slot && isByte r.zone && isByte r.plans && isHalf r.start && isHalf r.length &&
  isByte r.action && isByte r.priority && isByte r.single

def LoadTrunkReq.isWellFormed (r : LoadTrunkReq) : Bool :=
  isByte r.trunk && isByte r.enabled && isByte r.budget && isByte r.level && isByte r.day &&
  isByte r.night && isByte r.shared

/-- The command can occur. -/
def Instr.isWellFormed (i : Instr) : Bool :=
  match i with
  | .powerOn unit _ => decide (unit < 16)
  | .loadingComplete _ => true
  | .minuteBoundary => true
  | .timeValueCatchUp => true
  | .crystalStop => true
  | .crystalRestart => true
  | .backupSupplyLow => true
  | .selectNextTransaction t => isTrunk t
  | .replyReceived t _ => isTrunk t
  | .replyWindowClose t => isTrunk t
  | .broadcastEnd t => isTrunk t
  | .abortTrailerSent t => isTrunk t
  | .actuationLimit d => isDoor d
  | .waitCloseDue d => isDoor d
  | .supplySample t _ => isTrunk t
  | .holdAsserted t => isTrunk t
  | .holdNegated t => isTrunk t
  | .secondMasterFrame t _ => isTrunk t
  | .snoopedReply t _ => isTrunk t
  | .fireAsserted => true
  | .fireNegated => true
  | .siteFrameTimeout => true
  | .frameDiscarded => true
  | .unknownFrameKind tag kind =>
    isByte tag && isByte kind && decide (kind ≠ 1) && decide (kind ≠ 3)
  | .unknownRequestCode tag body =>
    isByte tag && isBody body &&
    decide (Machine.requestOf tag body = .unknownRequestCode tag body)
  | .transmitComplete => true
  | .doorCommandInvalid tag body =>
    isByte tag && isBody body &&
    decide (Machine.doorCommandOf tag body = .doorCommandInvalid tag body)
  | .release c => c.isWellFormed
  | .lock c => c.isWellFormed
  | .pulse c => c.isWellFormed
  | .query c => c.isWellFormed
  | .cancelOverride c => c.isWellFormed
  | .readStatus tag => isByte tag
  | .clearResync tag => isByte tag
  | .linkReset tag => isByte tag
  | .saveSettings tag => isByte tag
  | .savePageWritten => true
  | .saveAckTimeout => true
  | .setTime tag m s => isByte tag && isHalf m && isByte s
  | .readTime tag => isByte tag
  | .loadDoor tag r => isByte tag && r.isWellFormed
  | .readDoor tag d => isByte tag && isHalf d
  | .listHeldOut tag d => isByte tag && isHalf d
  | .ackAlarm tag d k => isByte tag && isHalf d && isByte k
  | .loadZone tag r => isByte tag && r.isWellFormed
  | .readZone tag z => isByte tag && isByte z
  | .zoneSweepPause tag z => isByte tag && isByte z
  | .zoneSweepResume tag z => isByte tag && isByte z
  | .zoneSweepCancel tag z => isByte tag && isByte z
  | .zoneSweepResweep tag z => isByte tag && isByte z
  | .loadClass tag c k a => isByte tag && isByte c && isByte k && isByte a
  | .readClass tag c => isByte tag && isByte c
  | .loadWindow tag r => isByte tag && r.isWellFormed
  | .deleteWindow tag w => isByte tag && isByte w
  | .readWindow tag w => isByte tag && isByte w
  | .selectPlan tag p => isByte tag && isByte p
  | .setBatchGap tag g => isByte tag && isByte g
  | .loadTrunk tag r => isByte tag && r.isWellFormed
  | .readTrunk tag t => isByte tag && isByte t
  | .readRoster tag t a => isByte tag && isByte t && isByte a
  | .resetTrunk tag t => isByte tag && isByte t
  | .clearFire tag => isByte tag
  | .dueArriving t => isTrunk t
  | .frameAbandoned _ => true
  | .powerCut => true

end Sys2Proof
end

