-- ==== Sys2Proof/Certificates/Slice0/Obligations.lean ====
section
/-! DEFINITION. The statements for the provers. -/

open Sys2Proof Sys2Proof.Machine

/-! ### The machine -/

/-- A step runs the command at the front of the queue, on the queue's rest. -/
def Obligations.StepRunsTheFrontCommand : Prop :=
  ∀ (c : Instr) (rest : List Instr) (s : State), s.pending = c :: rest →
    step s = exec c { s with pending := rest }

/-- The model's choices: with no command waiting, a tenth of a second passes (log 5). At 59.9 s the clock fields stand
until MINUTE_BOUNDARY (log 6). Without VDD the fields advance whatever the backup validity indicator and the clock
state say (log 9). -/
def Obligations.EmptyQueueLetsATenthPass : Prop :=
  ∀ s : State, s.pending = [] →
    let ticking := s.crystal = true ∧ (s.powered = true → s.clock = .running)
    ∃ t, step s = .next t ∧
      t.count = (if s.powered = true then s.count + 1 else s.count) ∧
      (ticking → s.second ≤ 59 → s.tenths ≤ 9 → (s.second < 59 ∨ s.tenths < 9) →
        (t.second * 10 + t.tenths) = (s.second * 10 + s.tenths) + 1) ∧
      (s.second = 59 → s.tenths = 9 → t.second = 59 ∧ t.tenths = 9) ∧
      (¬ticking → t.second = s.second ∧ t.tenths = s.tenths) ∧
      t.minute = s.minute ∧ t.doors = s.doors ∧ t.zones = s.zones ∧ t.queue = s.queue ∧
      t.answers = s.answers ∧ t.notices = s.notices ∧ t.memory = s.memory ∧
      t.storedTables = s.storedTables ∧ t.pending = s.pending

/-- What the power-on rules give every block (R23, R29, R51, R97, R125, R143, R185), in the reset state. The model's
choices: the backup validity indicator is clear (log 1), the HOLD inputs are NEGATED (log 4), and the tables read
as their defaults while they are being loaded (log 40). -/
def Obligations.ResetHoldsPowerOnValues : Prop :=
  let s := State.reset
  s.clock = .unset ∧ (s.minute, s.second, s.tenths) = (0, 0, 0) ∧ s.count = 0 ∧ s.evaluated = none ∧
  s.evaluator = .waiting ∧ s.plan = 0 ∧ s.queue = [] ∧ s.gap = 20 ∧ s.fireLine = false ∧
  s.fireLatch = false ∧ s.fireCount = 0 ∧ s.answers = [] ∧ s.saveAnswers = [] ∧
  s.notices = [⟨0, .clockUnset⟩] ∧ s.resync = true ∧ s.loader = .loading ∧ s.isStarting = true ∧
  (∀ d, d < 504 → s.door d = Door.blank .unmapped) ∧
  (∀ z, z < 64 → s.zone z = Zone.blank .default_ ∧ s.outstanding z = 0) ∧
  (∀ c, c < 8 → s.lockClass c = ⟨4, 20⟩) ∧
  (∀ t, t < 8 → s.trunk t = Trunk.blank .default_ false ∧ s.reserved t = 0)

/-- Every invariant stated below holds right after reset. -/
def Obligations.InvariantsHoldAtReset : Prop :=
  SiteInv State.reset ∧ QueueInv State.reset ∧ TargetInv State.reset ∧ RosterInv State.reset ∧
  BudgetInv State.reset ∧ ClockInv State.reset ∧ StartInv State.reset

/-! ### Invariants of every step -/

/-- R174, R175, R182, R183: the limits of the answer list and of the notice queue. -/
def Obligations.SiteLimitsAreKept : Prop :=
  ∀ s t : State, SiteInv s → step s = .next t → SiteInv t

/-- R1, R16, R69: a mapped door is QUEUED exactly while the queue holds its one entry. That no door is mapped while
the tables are being loaded is the model's choice (log 40). -/
def Obligations.QueueMatchesAgreement : Prop :=
  ∀ s t : State, QueueInv s → step s = .next t → QueueInv t

/-- R10, R11: the stored target of every door is at all times the one that the latch, its override and its
zone's scheduled state give. -/
def Obligations.TargetsFollowTheirInputs : Prop :=
  ∀ s t : State, TargetInv s → step s = .next t → TargetInv t

/-- R107, R110: the rosters ascend, without a repeat, over the addresses 1 to 63. -/
def Obligations.RostersStayInOrder : Prop :=
  ∀ s t : State, RosterInv s → step s = .next t → RosterInv t

/-- R79, R80, R120: the reserved units of a trunk never exceed its configured budget, but for a lone issue. -/
def Obligations.ReservationsStayInBudget : Prop :=
  ∀ s t : State, QueueInv s → BudgetInv s → step s = .next t → BudgetInv t

/-- R25, R26, R29: the clock fields stay in their ranges, and are 0 while the clock is UNSET. -/
def Obligations.ClockFieldsStayInRange : Prop :=
  ∀ s t : State, ClockInv s → step s = .next t → ClockInv t

/-- R29, R42, R51, R190: until start-up ends the starting window is open. Start-up ends as the window closes: the
Evaluator becomes ACTIVE and, with a RUNNING clock, E becomes the current minute and every zone takes the state
that the tables give there. It stays ACTIVE, short of a loss of power. -/
def Obligations.StartUpEndsOnce : Prop :=
  ∀ s t : State, StartInv s → step s = .next t →
    StartInv t ∧
    (s.evaluator = .active → (∀ u r rest, s.pending ≠ .powerOn u r :: rest) →
      (∀ rest, s.pending ≠ .powerCut :: rest) → t.evaluator = .active) ∧
    (s.evaluator = .waiting → t.evaluator = .active →
      t.isStarting = false ∧
      (s.clock = .unset → t.evaluated = s.evaluated) ∧
      (s.clock = .running → t.evaluated = some s.minute ∧
        ∀ z, z < 64 → (t.zone z).scheduled = t.scheduledAt z s.minute))

/-- R188, R191: no command but the acknowledgement of a save's page changes the external memory. -/
def Obligations.OnlySavesWriteMemory : Prop :=
  ∀ (i : Instr) (s t : State), i ≠ .savePageWritten → exec i s = .next t → t.memory = s.memory

/-- R176, R191: while a save runs nothing it stores changes but the window table, short of a loss of
power. -/
def Obligations.SavesFreezeStoredTables : Prop :=
  ∀ (i : Instr) (s t : State) (tag : Nat) (k : SaveStep), s.loader = .saving tag k →
    i ≠ .powerCut → (∀ u r, i ≠ .powerOn u r) → exec i s = .next t → t.storedTables = s.storedTables

/-- R25 to R31, R137 to R143: the latch and its count change by FIRE_ASSERTED and CLEAR_FIRE only, the clock by
SET_TIME, MINUTE_BOUNDARY and the backup domain's events only, short of a loss of power; no command but a
power-on or a power cut changes the tenths count. -/
def Obligations.ClockAndLatchChangeByTheirCommands : Prop :=
  ∀ (i : Instr) (s t : State), i ≠ .powerCut → (∀ u r, i ≠ .powerOn u r) → exec i s = .next t →
    t.count = s.count ∧
    (i ≠ .fireAsserted → (∀ tag, i ≠ .clearFire tag) →
      t.fireLatch = s.fireLatch ∧ t.fireCount = s.fireCount) ∧
    (i ≠ .minuteBoundary → (∀ tag m x, i ≠ .setTime tag m x) →
      (t.minute, t.second, t.tenths) = (s.minute, s.second, s.tenths) ∧ t.clock = s.clock ∧
      (i ≠ .crystalStop → i ≠ .backupSupplyLow → t.backupValid = s.backupValid) ∧
      (i ≠ .crystalStop → i ≠ .crystalRestart → t.crystal = s.crystal))

/-- R28, R171, R172, R174 (log 9): an unpowered part, and one whose answer list is full, acts on no frame; a SAVE
SETTINGS that is accepted forms no answer yet, so a full list does not discard it (log 18). What the receiver
abandons or discards leaves no trace; a 0x7E begins the next frame. A frame gives at most one answer, at the end
of the list; an event gives none, but for the end of a save, a transmission and the loss of power. -/
def Obligations.FramesDrawAtMostOneAnswer : Prop :=
  (∀ (i : Instr) (s : State), (frameOf i).isSome = true → s.powered = false → exec i s = .next s) ∧
  (∀ (i : Instr) (s : State), (frameOf i).isSome = true → (∀ tag, i ≠ .saveSettings tag) →
    8 ≤ s.answers.length → exec i s = .next s) ∧
  (∀ s : State, s.powered = true →
    exec .siteFrameTimeout s = .next { s with receiver := .idle } ∧
    exec .frameDiscarded s = .next { s with receiver := .idle } ∧
    exec (.frameAbandoned .framingError) s = .next { s with receiver := .idle } ∧
    exec (.frameAbandoned .lengthAbove48) s = .next { s with receiver := .idle } ∧
    exec (.frameAbandoned .newStart) s = .next { s with receiver := .inFrame [] false }) ∧
  ∀ (i : Instr) (s t : State), exec i s = .next t →
    ((frameOf i).isSome = true →
      t.answers = s.answers ∨ ∃ a, t.answers = s.answers ++ [a] ∧ s.answers.length < 8) ∧
    (frameOf i = none → i ≠ .transmitComplete → i ≠ .savePageWritten → i ≠ .saveAckTimeout →
      i ≠ .powerCut → (∀ u r, i ≠ .powerOn u r) → t.answers = s.answers)

/-- R25, R42, R92, R102, R137, R150, R173, R191: the frame of the trunk events, of the times of an entry and of the
site frames. An event on a trunk or of an entry leaves the clock, the schedule, the tables, the overrides, the
latch, the loader and the memory alone, and of the Site Link Port the answers, the transmission and the receiver;
its notice queue, notice number and resync flag may change, for the event may raise notices. A site frame, but for
LOAD TRUNK, RESET TRUNK and LINK RESET, leaves every trunk's line and roster alone, but for REQ and for the
follow-up and close-watch dues. -/
def Obligations.CommandsStayInTheirBlocks : Prop :=
  (∀ (i : Instr) (n d v : Nat) (bs : List Byte) (s t : State),
    i ∈ [Instr.selectNextTransaction n, .replyReceived n bs, .replyWindowClose n, .broadcastEnd n,
        .abortTrailerSent n, .supplySample n v, .holdAsserted n, .holdNegated n,
        .secondMasterFrame n bs, .snoopedReply n bs, .dueArriving n, .actuationLimit d,
        .waitCloseDue d] →
    s.evaluator = .active → exec i s = .next t →
      t.storedTables = s.storedTables ∧ t.windows = s.windows ∧ t.evaluated = s.evaluated ∧
      t.evaluator = .active ∧ t.clock = s.clock ∧
      (t.minute, t.second, t.tenths) = (s.minute, s.second, s.tenths) ∧ t.count = s.count ∧
      (t.fireLine, t.fireLatch, t.fireCount) = (s.fireLine, s.fireLatch, s.fireCount) ∧
      t.answers = s.answers ∧ t.saveAnswers = s.saveAnswers ∧ t.sending = s.sending ∧
      t.receiver = s.receiver ∧ t.loader = s.loader ∧ t.memory = s.memory ∧
      t.pending = s.pending ∧
      (∀ k, (t.door k).override = (s.door k).override) ∧
      (∀ k, (t.zone k).scheduled = (s.zone k).scheduled)) ∧
  (∀ (i : Instr) (s t : State), (frameOf i).isSome = true → (∀ tag q, i ≠ .loadTrunk tag q) →
    (∀ tag n, i ≠ .resetTrunk tag n) → (∀ tag, i ≠ .linkReset tag) → exec i s = .next t →
    ∀ k, { t.trunk k with request := false, roster := [] } =
        { s.trunk k with request := false, roster := [] } ∧
      ((t.trunk k).roster.map fun m => { m with followUpDue := none, closeWatchDue := none }) =
        (s.trunk k).roster.map fun m => { m with followUpDue := none, closeWatchDue := none })

/-! ### Encodings -/

/-- R171 to R173, R177, R186, R187: the frame of a well-formed command, with the part's unit number and a
correct check, is taken as that command, with every operand at its value. That a command's frame is what
`frameOf` writes (log 30), and that a ZONE SWEEP body of an unknown action is an unknown request (log 24), is the
model's reading. -/
def Obligations.CommandFramesReadBack : Prop :=
  ∀ (i : Instr) (unit kind tag : Nat) (body : List Byte), i.isWellFormed = true → unit < 16 →
    frameOf i = some (kind, tag, body) →
    siteCommand unit (withCheck ([u8 unit, u8 kind, u8 tag, u8 body.length] ++ body)) = some i

/-- R101, R103, R170, R171, R186: a byte sent as ten bits is read back, and a stop bit that reads low abandons the
frame in progress; what the transmitter escapes, a receiver puts together again as the one frame sent; a STATUS
reply, read inverted on a crossed pair, is accepted with every field at its value. The order of a byte's data bits is
R170's; on a trunk, where R101 gives none, it is the model's choice (log 53). -/
def Obligations.LinesReadBack : Prop :=
  (∀ b : Byte, (characterOf b).length = 10 ∧ (characterOf b).getD 0 true = false ∧
    (∀ k, k < 8 → (characterOf b).getD (k + 1) false = b.getLsbD k) ∧
    (characterOf b).getD 9 false = true ∧ readCharacter (characterOf b) = some b) ∧
  (∀ (r : Assembly) (bits : List Bool), bits.getD 9 false = false → r.receive bits = (.idle, none)) ∧
  (∀ (unit kind tag : Nat) (body : List Byte), body.length ≤ 48 →
    siteFrames (siteLine unit kind tag body) =
      [withCheck ([u8 unit, u8 kind, u8 tag, u8 body.length] ++ body)]) ∧
  (∀ (p : Polarity) (inverted : Bool) (a : Nat) (o : Status), a < 256 → o.kind < 256 →
    p.accepts inverted = true → acceptStatus p a (o.line inverted a) = some (inverted, o))

/-! ### Power and the clock -/

/-- R23, R28, R29, R51, R97, R125, R143, R185: a power-on starts every block afresh over the backup domain, a
powered part's too (log 39); the tables read as their defaults until they are loaded (log 40). The events of the
backup domain, and what a power cut leaves: an unpowered part's lists are empty (log 9). -/
def Obligations.PowerEventsKeepTheBackupDomain : Prop :=
  (∀ (unit : Nat) (rateHigh : Bool) (s : State), unit < 16 →
    ∃ t, exec (.powerOn unit rateHigh) s = .next t ∧ t.powered = true ∧ t.unit = unit ∧
      t.rateHigh = rateHigh ∧ t.count = 0 ∧ t.evaluated = none ∧ t.evaluator = .waiting ∧
      t.loader = .loading ∧ t.queue = [] ∧ t.answers = [] ∧ t.saveAnswers = [] ∧ t.resync = true ∧
      t.fireLine = false ∧ t.fireLatch = false ∧ t.fireCount = 0 ∧ t.isStarting = true ∧
      t.backupValid = s.backupValid ∧ t.memory = s.memory ∧ t.pending = s.pending ∧
      (∀ d, d < 504 → t.door d = Door.blank .unmapped) ∧
      (∀ z, z < 64 → t.zone z = Zone.blank .default_) ∧ (∀ i, i < 128 → t.windows.getD i none = none) ∧
      (∀ c, c < 8 → t.lockClass c = ⟨4, 20⟩) ∧ t.plan = 0 ∧ t.gap = 20 ∧
      (∀ k, k < 8 → t.trunk k = Trunk.blank .default_ (s.trunk k).hold) ∧
      t.sending = none ∧ t.answersInRow = 0 ∧ t.receiver = .idle ∧
      (s.backupValid = true → t.clock = .running ∧
        (t.minute, t.second, t.tenths) = (s.minute, s.second, s.tenths) ∧ t.notices = [] ∧
        t.noticeNumber = 0) ∧
      (s.backupValid = false → t.clock = .unset ∧ (t.minute, t.second, t.tenths) = (0, 0, 0) ∧
        t.notices = [⟨0, .clockUnset⟩] ∧ t.noticeNumber = 1)) ∧
  ∀ s : State,
    exec .crystalStop s = .next { s with crystal := false, backupValid := false } ∧
    exec .crystalRestart s = .next { s with crystal := true } ∧
    exec .backupSupplyLow s = .next { s with backupValid := false } ∧
    ∃ t, exec .powerCut s = .next t ∧ t.powered = false ∧ t.crystal = s.crystal ∧
      t.backupValid = s.backupValid ∧ (t.minute, t.second, t.tenths) = (s.minute, s.second, s.tenths) ∧
      t.memory = s.memory ∧ t.pending = s.pending ∧ t.answers = [] ∧ t.notices = [] ∧ t.queue = [] ∧
      ∀ tag k, t.loader ≠ .saving tag k

/-- R26, R27, R43, R154, R155: a minute boundary that is not ahead of E only moves the clock; one that is ahead sets
E, lowers every timed override and, while the Evaluator is ACTIVE, evaluates every zone at the minute, with the
UNTIL-TRANSITION overrides of the zones that change removed. -/
def Obligations.MinuteBoundaryRaisesMinuteEvents : Prop :=
  ∀ s : State, s.powered = true → s.crystal = true → s.clock = .running →
    (∀ e, s.evaluated = some e → e < 10080) →
    let m := (s.minute + 1) % 10080
    (s.evaluated = none ∨
        (∃ e, s.evaluated = some e ∧
          ((m + 10080 - e) % 10080 = 0 ∨ 5039 < (m + 10080 - e) % 10080)) →
      exec .minuteBoundary s = .next { s with minute := m, second := 0, tenths := 0 }) ∧
    (∀ e, s.evaluated = some e → 1 ≤ (m + 10080 - e) % 10080 → (m + 10080 - e) % 10080 ≤ 5039 →
      ∃ t, exec .minuteBoundary s = .next t ∧ (t.minute, t.second, t.tenths) = (m, 0, 0) ∧
        t.evaluated = some m ∧ t.count = s.count ∧ t.answers = s.answers ∧
        t.storedTables = s.storedTables ∧ t.fireLatch = s.fireLatch ∧
        (∀ d a c n, d < 504 → (s.door d).place.isSome = true →
          (s.door d).override = some ⟨a, c, .minutes n⟩ →
          (t.door d).override = if n ≤ 1 then none else some ⟨a, c, .minutes (n - 1)⟩) ∧
        (s.evaluator = .waiting → t.windows = s.windows ∧
          ∀ z, z < 64 → (t.zone z).scheduled = (s.zone z).scheduled) ∧
        (s.evaluator = .active → t.windows = (s.stepWindows m).windows ∧
          (∀ z, z < 64 → (t.zone z).scheduled = s.scheduledAt z m) ∧
          ∀ d a c, d < 504 → (s.door d).place.isSome = true → (s.door d).zone < 64 →
            (s.door d).override = some ⟨a, c, .untilTransition⟩ →
            (t.door d).override =
              if s.scheduledAt (s.door d).zone m = (s.zone (s.door d).zone).scheduled then
                some ⟨a, c, .untilTransition⟩
              else none))

/-- R26: every due, pause start, issued at, actuation limit and poll due comes back within 2^30 tenths of the count,
and a value within reach stays. That one command moves them all at once is the model's choice (log 36). -/
def Obligations.CatchUpKeepsValuesInReach : Prop :=
  ∀ s : State, s.powered = true →
    let f (v : Tenths) : Tenths :=
      if 1073741824 < (s.count - v).toInt then s.count - 1073741824#32 else v
    (∀ v : Tenths, (s.count - f v).toInt ≤ 1073741824) ∧
    ∃ t, exec .timeValueCatchUp s = .next t ∧ t.count = s.count ∧ t.doors = s.doors ∧
      t.queue = s.queue.map (fun e => { e with
        due := f e.due,
        phase := match e.phase with
          | .issued a => .issued { a with issuedAt := f a.issuedAt, limit := f a.limit }
          | p => p }) ∧
      (∀ z, z < 64 → t.zone z = { s.zone z with paused := (s.zone z).paused.map f }) ∧
      (∀ k, k < 8 → t.trunk k = { s.trunk k with
        roster := (s.trunk k).roster.map fun n => { n with
          routineDue := n.routineDue.map f, followUpDue := n.followUpDue.map f,
          closeWatchDue := n.closeWatchDue.map f, recoveryDue := n.recoveryDue.map f } })

/-- R31 to R33, R43: SET TIME is refused, or sets the clock as a correction or a jump. A forward correction ahead of
E raises a minute event at the new minute; a jump with E present, or from UNSET in service, evaluates it. -/
def Obligations.SetTimeSetsTheClock : Prop :=
  ∀ (tag m sec : Nat) (s : State), s.serves →
    (10080 ≤ m ∨ 60 ≤ sec →
      exec (.setTime tag m sec) s = .next (s.answer (.mgmt tag 0x10 .badValue []))) ∧
    (m < 10080 → sec < 60 →
      ∀ d, d = ((m * 60 + sec) * 10 + 6048000 - ((s.minute * 60 + s.second) * 10 + s.tenths)) % 6048000 →
      s.minute < 10080 → s.second < 60 → s.tenths < 10 → (∀ e, s.evaluated = some e → e < 10080) →
      let kind := if s.clock = .running ∧ (d ≤ 900 ∨ 6047100 ≤ d) then 0 else 1
      let u : State := { s with clock := .running }
      let ahead := ∃ e, s.evaluated = some e ∧ 1 ≤ (m + 10080 - e) % 10080 ∧ (m + 10080 - e) % 10080 ≤ 5039
      let kept (t : State) : Prop := t.evaluated = s.evaluated ∧ t.doors = s.doors ∧ t.queue = s.queue ∧
        t.zones = s.zones ∧ t.windows = s.windows
      let evaluated (t : State) : Prop := t.evaluated = some m ∧
        (s.evaluator = .active → t.windows = (u.stepWindows m).windows ∧
          ∀ z, z < 64 → (t.zone z).scheduled = u.scheduledAt z m)
      ∃ t, exec (.setTime tag m sec) s = .next t ∧
        (t.minute, t.second, t.tenths) = (m, sec, 0) ∧ t.clock = .running ∧ t.backupValid = true ∧
        t.count = s.count ∧ t.storedTables = s.storedTables ∧
        t.answers = s.answers ++ [.mgmt tag 0x10 .ok [.n1 kind, .n2 m, .n1 sec]] ∧
        (s.clock = .running → d = 0 ∨ 6047100 ≤ d → kept t) ∧
        (s.clock = .running → 1 ≤ d → d ≤ 900 → ¬ahead → kept t) ∧
        (s.clock = .running → 1 ≤ d → d ≤ 900 → ahead → evaluated t ∧
          ∀ k a c n, k < 504 → (s.door k).place.isSome = true →
            (s.door k).override = some ⟨a, c, .minutes n⟩ →
            (t.door k).override = if n ≤ 1 then none else some ⟨a, c, .minutes (n - 1)⟩) ∧
        (kind = 1 → s.evaluated.isSome = true ∨ (s.clock = .unset ∧ s.evaluator = .active) →
          evaluated t ∧ ∀ k a c n, k < 504 → (s.door k).override = some ⟨a, c, .minutes n⟩ →
            (t.door k).override = (s.door k).override) ∧
        (kind = 1 → s.evaluated = none → s.evaluator = .waiting → kept t))

/-! ### Schedule and batches -/

/-- R40, R41, R46, R47, R50: a window matches exactly the minutes from its start, for its length, round the week. An
evaluation sets the matched flag of a single-shot window that takes part and matches, retires a matched one that
fails, and leaves every other slot; each zone takes its default without a candidate, SECURE when a candidate of the
highest priority asks for it, and OPEN otherwise. With the clock UNSET every zone is NONE and no slot changes. -/
def Obligations.EvaluationsFollowTheTable : Prop :=
  (∀ (w : Window) (k : Nat), w.start < 10080 → w.length ≤ 10080 → k < 10080 →
    (w.matches ((w.start + k) % 10080) = true ↔ k < w.length)) ∧
  ∀ (m : Nat) (s : State),
    (s.clock = .unset → (s.evaluate m).windows = s.windows ∧
      ∀ z, z < 64 → ((s.evaluate m).zone z).scheduled = none) ∧
    (s.clock = .running →
      (∀ i, i < 128 → s.windows.getD i none = none → (s.evaluate m).windows.getD i none = none) ∧
      (∀ i w, i < 128 → s.windows.getD i none = some w →
        (s.evaluate m).windows.getD i none =
          if w.single = true ∧ w.matched = true ∧ w.matches m = false then none
          else if w.single = true ∧ w.plans.getLsbD s.plan = true ∧ w.matches m = true then
            some { w with matched := true }
          else some w) ∧
      ∀ z, z < 64 →
        let candidate (w : Window) : Prop := some w ∈ s.windows.rows ∧
          w.plans.getLsbD s.plan = true ∧ (w.zone = none ∨ w.zone = some z) ∧ w.matches m = true
        let top (w : Window) : Prop := candidate w ∧ ∀ v, candidate v → v.priority ≤ w.priority
        ((∀ w, ¬candidate w) →
          ((s.evaluate m).zone z).scheduled = some (s.zone z).defaultState) ∧
        (∀ w, top w → w.action = .secure → ((s.evaluate m).zone z).scheduled = some .secure) ∧
        (∀ w, top w → (∀ v, top v → v.action = .opened) →
          ((s.evaluate m).zone z).scheduled = some .opened))

/-- R4, R36, R37, R39, R41 to R43, R46, R47: LOAD WINDOW, DELETE WINDOW, SELECT PLAN and LOAD ZONE are refused for an
index, then for a value, out of its range, and change nothing. Accepted, they are stored, LOAD ZONE's retry interval
and attempt limit clamped, and while the Evaluator is ACTIVE every zone takes the state that R41 gives it at E, and
the window table what the single-shot rule makes of it there. -/
def Obligations.ScheduleRequestsReevaluate : Prop :=
  ∀ (tag : Nat) (s : State), s.serves →
    let badWindow (r : LoadWindowReq) : Prop := (63 < r.zone ∧ r.zone ≠ 255) ∨ r.plans = 0 ∨ 10079 < r.start ∨
      r.length = 0 ∨ 10080 < r.length ∨ 1 < r.action ∨ 7 < r.priority ∨ 1 < r.single
    let badZone (r : LoadZoneReq) : Prop := 1 < r.defaultState ∨ 3 < r.floor ∨ 1 < r.settle
    let state (k : Nat) : ZoneState := if k = 0 then .secure else .opened
    let refused (i : Instr) (code : Nat) (x : MgmtResult) : Prop :=
      exec i s = .next (s.answer (.mgmt tag code x []))
    (∀ r : LoadWindowReq, r.plans < 256 →
      (127 < r.slot → refused (.loadWindow tag r) 0x38 .badIndex) ∧
      (r.slot ≤ 127 → badWindow r → refused (.loadWindow tag r) 0x38 .badValue)) ∧
    (∀ slot, 127 < slot → refused (.deleteWindow tag slot) 0x39 .badIndex) ∧
    (∀ p, 7 < p → refused (.selectPlan tag p) 0x3B .badValue) ∧
    (∀ r : LoadZoneReq,
      (63 < r.zone → refused (.loadZone tag r) 0x28 .badIndex) ∧
      (r.zone ≤ 63 → badZone r → refused (.loadZone tag r) 0x28 .badValue)) ∧
    ∀ (u : State) (i : Instr) (code : Nat) (data : List Field),
      ((∃ r, i = .loadWindow tag r ∧ r.slot ≤ 127 ∧ ¬badWindow r ∧ r.plans < 256 ∧ code = 0x38 ∧ data = [] ∧
          u = { s with windows := s.windows.set r.slot (some
            ⟨if r.zone = 255 then none else some r.zone, BitVec.ofNat 8 r.plans, r.start, r.length,
              state r.action, r.priority, decide (r.single = 1), false⟩) }) ∨
        (∃ slot, i = .deleteWindow tag slot ∧ slot ≤ 127 ∧ code = 0x39 ∧ data = [] ∧
          u = { s with windows := s.windows.set slot none }) ∨
        (∃ p, i = .selectPlan tag p ∧ p ≤ 7 ∧ code = 0x3B ∧ data = [.n1 s.plan, .n1 p] ∧
          u = { s with plan := p }) ∨
        (∃ r, i = .loadZone tag r ∧ r.zone ≤ 63 ∧ ¬badZone r ∧ code = 0x28 ∧ data = [] ∧
          u = s.onZone r.zone fun z => { z with toZoneConfig :=
            ⟨state r.defaultState, r.rank, r.floor, r.step, max 5 r.retry, max 1 (min 15 r.limit),
              decide (r.settle = 1)⟩ })) →
      ∃ t, exec i s = .next t ∧ t.answers = s.answers ++ [.mgmt tag code .ok data] ∧
        t.storedTables = u.storedTables ∧ t.evaluated = s.evaluated ∧ t.count = s.count ∧
        (s.evaluator = .waiting → t = u.answer (.mgmt tag code .ok data)) ∧
        (s.evaluator = .active → t.windows = (u.stepWindows (s.evaluated.getD 0)).windows ∧
          ∀ z, z < 64 → (t.zone z).scheduled = u.scheduledAt z (s.evaluated.getD 0))

/-- R54, R58: the zones of a batch go by rank, descending toward OPEN and in a restoration, ascending otherwise, and
by number within a rank; a zone without a positioned door takes no place. Within a zone the offsets rise by its
step, the next zone starts after its doors and the gap, and every offset and start above 65,535 is 65,535. -/
def Obligations.OffsetsFollowTheStagger : Prop :=
  (∀ (descending : Bool) (rank : Nat → Nat) (zs : List Nat), zs.Pairwise (· < ·) →
    (orderZones descending rank zs).Perm zs ∧
    (orderZones descending rank zs).Pairwise fun a b =>
      (if descending = true then rank b < rank a else rank a < rank b) ∨ (rank a = rank b ∧ a < b)) ∧
  (∀ (k : BatchKind) (zones doors : List Nat) (s : State),
    let members (z : Nat) : List Nat :=
      doors.filter fun d => decide (s.standing k d = .positioned) && decide ((s.door d).zone = z)
    s.places k zones doors = batchOffsets s.gap 0
      ((orderZones (decide (k = .opened ∨ k = .restore)) (fun z => (s.zone z).rank)
        (zones.filter fun z => decide (members z ≠ []))).map fun z => ((s.zone z).step, members z))) ∧
  ∀ (gap step start : Nat) (doors : List Nat) (rest : List (Nat × List Nat)),
    (∀ p ∈ batchOffsets gap start ((step, doors) :: rest), p.2 ≤ 65535) ∧
    (∀ i d, doors[i]? = some d →
      (batchOffsets gap start ((step, doors) :: rest))[i]? = some (d, min 65535 (start + i * step))) ∧
    batchOffsets gap start ((step, doors) :: rest) =
      zoneOffsets start step doors ++
        batchOffsets gap (min 65535 (start + doors.length * step + gap)) rest ∧
    (zoneOffsets start step doors).length = doors.length

/-- R55 to R59, R62: a formation counts the doors of each class, the first row of its table that applies to a door
deciding; a positioned door is enqueued unless its waiting entry is removed as already, and one without an entry
gets it due at the base time plus its offset. The four tallies of a zone add up to its doors considered. -/
def Obligations.BatchTalliesAddUp : Prop :=
  ∀ (k : BatchKind) (zones doors : List Nat) (s : State) (z : Nat), zones.Nodup → z ∈ zones → z < 64 →
    let t := s.formBatch k zones doors
    let c := (t.zone z).tallies
    let count (p : Nat → Bool) : Nat := (doors.filter fun d => decide ((s.door d).zone = z) && p d).length
    let timed (d : Nat) : Bool :=
      match (s.door d).override with
      | some ⟨_, _, .minutes _⟩ => true
      | _ => false
    let underFire (d : Nat) : Bool := s.fireLatch && (s.door d).egress
    let skipped (d : Nat) : Bool :=
      match k with
      | .restore => false
      | .resweep => underFire d
      | _ => timed d || (underFire d && decide (k = .secure)) ||
          decide ((s.entryOf d).map Entry.origin = some .fire)
    let unreachable (d : Nat) : Bool :=
      !skipped d && decide (k ≠ .resweep) && decide ((s.door d).agreement = .unknown)
    let already (d : Nat) : Bool :=
      !skipped d && !unreachable d && ((decide (s.entryOf d = none) && (s.door d).isInStep) ||
        (decide (k = .restore) && decide ((s.door d).target = none)))
    let positioned (d : Nat) : Bool := !skipped d && !unreachable d && !already d
    let removed (d : Nat) : Bool :=
      (s.door d).isInStep && ((s.entryOf d).map fun e => !e.isIssued).getD false
    (∀ d, s.standing k d = .positioned ↔ positioned d = true) ∧
    c.skipped = count skipped ∧ c.unreachable = count unreachable ∧
    c.enqueued + c.skipped + c.unreachable + c.already = count (fun _ => true) ∧
    (doors.Nodup → (∀ d ∈ doors, d < 504) →
      c.enqueued = count (fun d => positioned d && !removed d) ∧
      c.already = count (fun d => already d || (positioned d && removed d)) ∧
      ∀ d l off, (d, off) ∈ s.places k zones doors → s.entryOf d = none → (s.door d).target = some l →
        t.entryOf d = some ⟨d, .drive l, k.origin, s.count + BitVec.ofNat 32 off, 0, .pending⟩)

/-! ### The sweep queue -/

/-- R72 to R74: what a hand-off does to a door without an entry, to a waiting entry and to an attempt in flight, with
the entry's place in the list: a new one joins the tail, a removed one leaves it, any other keeps its place. A
hand-off tallies nothing of its own; a batch's (R59) tallies a removed waiting entry as already. -/
def Obligations.HandOffsFollowTheEntry : Prop :=
  ∀ (d : Nat) (t : Target) (o : Origin) (due : Tenths) (s : State), d < 504 →
    (s.entryOf d = none → (s.door d).bolt.satisfies t = true → s.handOff d t o due = s) ∧
    (∀ l, s.entryOf d = none → t = some l → (s.door d).bolt.satisfies t = false →
      (s.handOff d t o due).queue = s.queue ++ [⟨d, .drive l, o, due, 0, .pending⟩] ∧
      ((s.handOff d t o due).door d).agreement = .queued) ∧
    (∀ e, s.entryOf d = some e → e.isIssued = false → (s.door d).bolt.satisfies t = true →
      (s.handOff d t o due).queue = s.queue.filter (fun x => decide (x.door ≠ d)) ∧
      (s.handOff d t o due).entryOf d = none ∧ ((s.handOff d t o due).door d).agreement = .inStep) ∧
    (∀ e l, s.entryOf d = some e → e.isIssued = false → t = some l →
      (s.door d).bolt.satisfies t = false →
      (s.handOff d t o due).queue =
        s.queue.map (fun x => if x.door = d then ⟨d, .drive l, o, due, 0, .pending⟩ else x) ∧
      (s.handOff d t o due).entryOf d = some ⟨d, .drive l, o, due, 0, .pending⟩ ∧
      (s.handOff d t o due).doors = s.doors) ∧
    (∀ e a, s.entryOf d = some e → e.phase = .issued a →
      let new : Entry := { e with
        origin := o,
        phase := .issued { a with
          retarget := if e.target = .drive .locked ∧ t = some .locked ∨
              e.target = .drive .released ∧ t = some .released then none else some t } }
      (s.handOff d t o due).queue = s.queue.map (fun x => if x.door = d then new else x) ∧
      (s.handOff d t o due).entryOf d = some new ∧ (s.handOff d t o due).doors = s.doors) ∧
    (s.handOff d t o due).zones = s.zones ∧
    ∀ e, s.entryOf d = some e → e.isIssued = false → (s.door d).isInStep = true → (s.door d).zone < 64 →
      let z := s.zone (s.door d).zone
      ((s.handPosition o d due).zone (s.door d).zone).tallies =
        { z.tallies with already := z.tallies.already + 1 }

/-- R22, R66, R85 to R87, R89, R90, R136: an actuation limit ends a THROW or WITHDRAW as a jam on an owned trunk, a
PULSE by holding its door out, and an attempt with a retarget by applying it; on a yielded trunk it does nothing.
The due of a WAIT-CLOSE entry makes it PENDING. That the bolt last reported plays no part at the limit, and that a
DOOR STATUS notice stands before ZONE SETTLED, are the model's choices (logs 44 and 15). -/
def Obligations.EntryTimesDecideAttempts : Prop :=
  ∀ (d : Nat) (s : State) (e : Entry), d < 504 → s.powered = true → s.entryOf d = some e →
    let r := s.door d
    (∀ a, e.phase = .issued a → s.arrived a.limit = true → a.grace = false → s.isYielded r = false →
      ∃ t, exec (.actuationLimit d) s = .next t ∧
        (a.retarget = none → (∃ l, e.target = .drive l) →
          if s.attemptLimit e ≤ e.attempts then
            t.entryOf d = none ∧ (t.door d).agreement = .heldOut .jammed
          else
            t.entryOf d = some { e with
              phase := .pending, due := s.after (10 * (s.zone r.zone).retry) } ∧ t.doors = s.doors) ∧
        (a.retarget = none → (∃ k, e.target = .pulse k) →
          t.entryOf d = none ∧
          (t.door d).agreement = .heldOut (if r.bolt = .withdrawn then .doorOpen else .jammed)) ∧
        (a.retarget = some none → t.entryOf d = none ∧ (t.door d).agreement = .inStep) ∧
        (∀ l, a.retarget = some (some l) →
          if r.bolt = l.bolt then t.entryOf d = none ∧ (t.door d).agreement = .inStep
          else t.entryOf d = some ⟨d, .drive l, e.origin, s.count, 0, .pending⟩) ∧
        (s.notices.length < 63 → r.agreement = .queued →
          t.notices = s.told ((if t.entryOf d = none ∧ ((t.door d).agreement ≠ .inStep ∨
              (e.origin ≠ .schedule ∧ e.origin ≠ .restore)) then [t.statusNotice d] else []) ++
            t.settledNotices s r.zone)) ∧
        ∀ k, k ≠ d → t.door k = s.door k ∧ t.entryOf k = s.entryOf k) ∧
    (∀ a, e.phase = .issued a → s.isYielded r = true →
      exec (.actuationLimit d) s = .next s) ∧
    (e.phase = .waitClose → s.arrived e.due = true →
      ∃ t, exec (.waitCloseDue d) s = .next t ∧ t.entryOf d = some { e with phase := .pending } ∧
        t.doors = s.doors ∧ t.zones = s.zones ∧ t.notices = s.notices ∧
        ∀ k, k ≠ d → t.entryOf k = s.entryOf k)

/-- R92 to R94: PAUSE sets the flag and the start of the zone, or of all 64 for ALL (0xFF), where they are not set;
RESUME of a paused zone moves its held entries' dues by the length of its pause and clears the flag; RESUME of a
zone that is not paused changes nothing. Both are carried out while a save runs, answer the count of the zones
whose flag they changed, and refuse any other zone number. -/
def Obligations.PauseAndResumeMoveDues : Prop :=
  ∀ (tag z : Nat) (s : State), s.takes → s.loader ≠ .loading →
    (63 < z → z ≠ 255 →
      exec (.zoneSweepPause tag z) s = .next (s.answer (.mgmt tag 0x2A .badIndex [])) ∧
      exec (.zoneSweepResume tag z) s = .next (s.answer (.mgmt tag 0x2A .badIndex []))) ∧
    ∀ zs : List Nat, (z < 64 ∧ zs = [z]) ∨ (z = 255 ∧ zs = List.range 64) →
      (∃ t, exec (.zoneSweepPause tag z) s = .next t ∧
        (∀ k, k < 64 → t.zone k = { s.zone k with
          paused := if k ∈ zs then some ((s.zone k).paused.getD s.count) else (s.zone k).paused }) ∧
        t.queue = s.queue ∧ t.doors = s.doors ∧ t.notices = s.notices ∧
        t.answers = s.answers ++ [.mgmt tag 0x2A .ok
          [.n2 (zs.filter fun k => decide ((s.zone k).paused = none)).length]]) ∧
      ∃ t, exec (.zoneSweepResume tag z) s = .next t ∧
        (∀ k, k < 64 → t.zone k = { s.zone k with
          paused := if k ∈ zs then none else (s.zone k).paused }) ∧
        t.doors = s.doors ∧ t.notices = s.notices ∧
        t.answers = s.answers ++ [.mgmt tag 0x2A .ok
          [.n2 (zs.filter fun k => decide ((s.zone k).paused ≠ none)).length]] ∧
        t.queue = s.queue.map fun e =>
          match (s.zone (s.door e.door).zone).paused with
          | none => e
          | some start =>
            if (s.door e.door).zone ∈ zs ∧ e.isIssued = false ∧
                (e.origin = .schedule ∨ e.origin = .resweep ∨ e.origin = .restore ∨
                  e.origin = .correction) then
              { e with
                due :=
                  if 65535 < (s.count - start).toInt - (s.count - e.due).toInt then s.count + 65535#32
                  else e.due + (s.count - start) }
            else e

/-- R18, R53, R57, R66, R92, R95, R96: CANCEL drops the held kinds of entry of the zone, or of every zone for ALL
(0xFF), and leaves the others. RESWEEP forms one batch, of the zone, or for ALL of the zones that hold a HELD-OUT or
DEFERRED door, and answers what its tallies count: such a door out of step gets an entry, of origin FIRE for an
egress door under the latch; one already in step becomes IN-STEP, without a notice of its own (log 48); a zone that
the batch leaves without a member settles, zones in ascending order (log 15). Both are carried out while a save
runs, and refuse any other zone number. -/
def Obligations.CancelAndResweep : Prop :=
  ∀ (tag z : Nat) (s : State), s.takes → s.loader ≠ .loading → QueueInv s →
    (63 < z → z ≠ 255 →
      exec (.zoneSweepCancel tag z) s = .next (s.answer (.mgmt tag 0x2A .badIndex [])) ∧
      exec (.zoneSweepResweep tag z) s = .next (s.answer (.mgmt tag 0x2A .badIndex []))) ∧
    ∀ zs : List Nat, (z < 64 ∧ zs = [z]) ∨ (z = 255 ∧ zs = List.range 64) →
      (let dropped (e : Entry) : Bool :=
          decide ((s.door e.door).zone ∈ zs) && !e.isIssued &&
          (decide (e.origin = .schedule) || decide (e.origin = .resweep) ||
            decide (e.origin = .restore) || decide (e.origin = .correction))
        ∃ t, exec (.zoneSweepCancel tag z) s = .next t ∧
          t.queue = s.queue.filter (fun e => !dropped e) ∧
          t.answers = s.answers ++ [.mgmt tag 0x2A .ok [.n2 (s.queue.filter dropped).length]] ∧
          (∀ e ∈ s.queue, dropped e = true →
            (t.door e.door).agreement =
              if (s.door e.door).bolt.satisfies (s.door e.door).target then .inStep else .deferred) ∧
          (∀ k, (∀ e ∈ s.queue, dropped e = true → e.door ≠ k) → t.door k = s.door k) ∧
          t.zones = s.zones) ∧
      let holds (k : Nat) : Bool := (List.range 504).any fun d =>
        decide ((s.door d).zone = k) && (s.door d).agreement.isPutAside
      let zones := if z = 255 then zs.filter holds else zs
      ∃ t, exec (.zoneSweepResweep tag z) s = .next t ∧
        t.answers = s.answers ++ [.mgmt tag 0x2A .ok
          [.n2 (zones.map fun k => (t.zone k).tallies.enqueued).sum]] ∧
        t.storedTables = s.storedTables ∧
        (∀ k, k < 64 → k ∉ zones → (t.zone k).tallies = (s.zone k).tallies) ∧
        (∀ d, d < 504 → (s.door d).zone ∈ zones → (s.door d).agreement.isPutAside = true →
          let r := s.door d
          (r.isInStep = true → (s.fireLatch = true → r.egress = true → r.target = some .released) →
            t.entryOf d = none ∧ (t.door d).agreement = .inStep) ∧
          (∀ l, r.isInStep = false → r.target = some l → (s.fireLatch = false ∨ r.egress = false) →
            (t.door d).agreement = .queued ∧ ∃ due,
              t.entryOf d = some ⟨d, .drive l, .resweep, due, 0, .pending⟩) ∧
          (s.fireLatch = true → r.egress = true → r.bolt ≠ .withdrawn → r.isInStep = false →
            t.entryOf d = some ⟨d, .drive .released, .fire, s.count, 0, .pending⟩)) ∧
        (∀ d, d < 504 → (s.door d).zone ∉ zones ∨ (s.door d).agreement.isPutAside = false →
          t.door d = s.door d ∧ t.entryOf d = s.entryOf d) ∧
        (s.notices.length + zones.length ≤ 64 →
          t.notices = s.told (zones.flatMap fun k =>
            if t.outstanding k = 0 ∧ (s.zone k).settle = true then
              [.zoneSettled k (s.zone k).scheduled (t.zone k).tallies] else []))

/-! ### Observations -/

/-- R16 to R19, R22, R76, R89, R116: the observation that a routine poll brings is judged against the target. A door
IN-STEP, or UNKNOWN with its node ONLINE, that is out of step gets a CORRECTION entry, or is held out DOOR-OPEN where
it should lock with its leaf open; HELD-OUT and DEFERRED end in step, a held-out door that closes late gets its
CORRECTION; a PENDING entry ends as matched, a WAIT-CLOSE entry by the bolt or the leaf. DOOR STATUS reports the
changes of agreement but those into QUEUED, and the leaf of a held-out door. -/
def Obligations.ObservationsAreJudged : Prop :=
  ∀ (n d : Nat) (bs : List Byte) (o : Status) (s : State), s.hears n .routine d bs o → QueueInv s →
    let r := s.door d
    let inStep := o.bolt.satisfies r.target = true
    let left (t : State) (a : Agreement) : Prop := t.entryOf d = none ∧ (t.door d).agreement = a
    let corrected (t : State) : Prop := (t.door d).agreement = .queued ∧
      ∃ l, r.target = some l ∧ t.entryOf d = some ⟨d, .drive l, .correction, s.count, 0, .pending⟩
    let seen := r.agreement = .inStep ∨ (r.agreement = .unknown ∧ s.isReachable r = true)
    ∃ t, exec (.replyReceived n bs) s = .next t ∧ (t.door d).target = r.target ∧
      (seen ∨ r.agreement.isPutAside = true → inStep → left t .inStep) ∧
      (seen → ¬inStep →
        if r.target = some .locked ∧ o.leaf = .opened then left t (.heldOut .doorOpen)
        else corrected t) ∧
      (r.agreement = .unknown → s.isReachable r = false → left t .unknown) ∧
      (∀ why, r.agreement = .heldOut why → ¬inStep →
        if why = .doorOpen ∧ r.target = some .locked ∧ o.leaf = .closed then corrected t
        else left t (.heldOut why)) ∧
      (r.agreement = .deferred → ¬inStep → left t .deferred) ∧
      (∀ e l, s.entryOf d = some e → e.phase = .pending → e.target = .drive l →
        if o.bolt = l.bolt then left t .inStep else t.entryOf d = some e) ∧
      (∀ e k, s.entryOf d = some e → e.phase = .pending → e.target = .pulse k →
        t.entryOf d = some e) ∧
      (∀ e, s.entryOf d = some e → e.phase = .waitClose →
        if o.bolt = .thrown then left t .inStep
        else if o.leaf = .closed then t.entryOf d = some { e with phase := .pending, due := s.count }
        else t.entryOf d = some e) ∧
      (s.notices.length < 64 → r.watched = false → r.snapshot = none → r.agreement ≠ .queued →
        t.notices =
          if (t.door d).agreement ≠ .queued ∧ ((t.door d).agreement ≠ r.agreement ∨
              (r.agreement.isHeldOut = true ∧ (r.leaf = .closed ∧ o.leaf = .opened ∨
                r.leaf = .opened ∧ o.leaf = .closed))) then s.told [t.statusNotice d]
          else s.notices) ∧
      ∀ k, k ≠ d → t.door k = s.door k ∧ t.entryOf k = s.entryOf k

/-- R160 to R165: an observation of a watched door is compared with its snapshot. An opened leaf against a thrown
bolt adds FORCED, a withdrawn bolt KEYED, a tamper report TAMPER, each to what the set held; any difference clears
the snapshot, and a door IN-STEP with LOCKED, thrown and closed, holds one afterwards. An alarm added, or a leaf
opened against a snapshot, raises one DOOR STATUS notice with the fields as they stand after all of it; that it
stands ahead of a ZONE SETTLED notice of the same removal is the model's choice (log 15). An observation that changes
none of alarms, leaf and agreement raises none. -/
def Obligations.SupervisionComparesTheSnapshot : Prop :=
  ∀ (n d : Nat) (bs : List Byte) (o : Status) (s : State), s.hears n .routine d bs o → QueueInv s →
    let r := s.door d
    let watching := r.watched && r.snapshot.isSome
    ∃ t, exec (.replyReceived n bs) s = .next t ∧
      (t.door d).alarms =
        ⟨r.alarms.forced || (watching && decide (o.bolt = .thrown) && decide (o.leaf = .opened)),
          r.alarms.keyed || (watching && decide (o.bolt = .withdrawn)),
          r.alarms.tamper || (r.watched && o.tamper)⟩ ∧
      (r.watched = true → ¬(o.bolt = .thrown ∧ o.leaf = .closed) → (t.door d).snapshot = none) ∧
      (r.watched = true → r.target = some .locked → r.agreement = .inStep → o.bolt = .thrown →
        o.leaf = .closed → (t.door d).snapshot = some (r.snapshot.getD ⟨.thrown, .closed⟩)) ∧
      (r.watched = true → r.snapshot = none → (t.door d).agreement = .inStep → r.target = some .locked →
        o.bolt = .thrown → o.leaf = .closed → (t.door d).snapshot = some ⟨.thrown, .closed⟩) ∧
      (r.watched = false → r.snapshot = none → (t.door d).snapshot = none) ∧
      (s.notices.length < 63 →
        ((t.door d).alarms ≠ r.alarms ∨
            (r.snapshot ≠ none ∧ r.leaf = .closed ∧ o.leaf = .opened) →
          t.notices = s.told (t.statusNotice d :: t.settledNotices s r.zone)) ∧
        ((t.door d).alarms = r.alarms → r.leaf = o.leaf →
          (t.door d).agreement = r.agreement → t.notices = s.notices))

/-- R22, R63, R66, R84, R86, R87, R90, R114, R136: a follow-up result of an ISSUED entry. The target reached confirms
it, for a PULSE a thrown bolt once its seconds are over; a jam, or any result once a yield has kept it past its
limit, tries it again or holds its door out; any other result leaves it waiting, with its next follow-up due. A
retarget takes the place of an end. Ends of batch members are tallied, and the notices follow, the zone's last
(log 15). -/
def Obligations.FollowUpsDecideAttempts : Prop :=
  ∀ (n d : Nat) (bs : List Byte) (o : Status) (s : State) (e : Entry) (a : Attempt),
    s.hears n .followUp d bs o → QueueInv s → s.entryOf d = some e → e.phase = .issued a →
    (s.door d).zone < 64 →
    let r := s.door d
    let z := s.zone r.zone
    let reached : Bool :=
      match e.target with
      | .drive l => decide (o.bolt = l.bolt)
      | .pulse k => decide (o.bolt = .thrown) && s.arrived (a.issuedAt + BitVec.ofNat 32 (10 * k))
    let ends := reached = true ∨ o.bolt = .jammed ∨ a.grace = true
    let ended (t : State) (ag : Agreement) (c : Tallies) : Prop :=
      t.entryOf d = none ∧ (t.door d).agreement = ag ∧
      (t.zone r.zone).tallies = if e.origin.isBatch = true then c else z.tallies
    let confirmed : Tallies := { z.tallies with confirmed := z.tallies.confirmed + 1 }
    let heldOut : Tallies := { z.tallies with heldOut := z.tallies.heldOut + 1 }
    ∃ t, exec (.replyReceived n bs) s = .next t ∧
      (¬ends → t.entryOf d = some e ∧ (t.zone r.zone).tallies = z.tallies ∧
        ∀ m ∈ (t.trunk n).roster, some ⟨n, m.addr⟩ = r.place → m.followUpDue = some (s.after 5)) ∧
      (a.retarget = none → reached = true → ended t .inStep confirmed) ∧
      (a.retarget = none → reached = false →
        o.bolt = .jammed ∨ (a.grace = true ∧ ∃ l, e.target = .drive l) →
        if s.attemptLimit e ≤ e.attempts then ended t (.heldOut .jammed) heldOut
        else t.entryOf d = some { e with phase := .pending, due := s.after (10 * z.retry) }) ∧
      (a.retarget = none → reached = false → o.bolt ≠ .jammed → a.grace = true →
        (∃ k, e.target = .pulse k) →
        ended t (.heldOut (if o.bolt = .withdrawn then .doorOpen else .jammed)) heldOut) ∧
      (a.retarget = some none → ends → ended t .inStep z.tallies) ∧
      (∀ l, a.retarget = some (some l) → ends →
        if o.bolt = l.bolt then ended t .inStep confirmed
        else t.entryOf d = some ⟨d, .drive l, e.origin, s.count, 0, .pending⟩) ∧
      (s.notices.length < 63 → r.watched = false → r.snapshot = none →
        t.notices = s.told ((if t.entryOf d = none ∧ ((t.door d).agreement ≠ .inStep ∨
            (e.origin ≠ .schedule ∧ e.origin ≠ .restore)) then [t.statusNotice d] else []) ++
          t.settledNotices s r.zone)) ∧
      ∀ k, k ≠ d → t.door k = s.door k ∧ t.entryOf k = s.entryOf k

/-! ### Door commands -/

/-- R145, R146, R148, R149: the checks of a door command in their order; a refused one changes nothing but the
answer list. A QUERY that passes them is answered from the record, and changes nothing. -/
def Obligations.DoorCommandsAreCheckedInOrder : Prop :=
  (∀ (a : DoorAction) (c : DoorCmd) (s : State) (x : DoorResult), s.takes →
    let r := s.door c.door
    let overridden := ∃ o, r.override = some o ∧ c.cls < o.cls
    ((s.isStarting = true ∧ x = .starting) ∨
      (s.isStarting = false ∧
        ((3 < c.cls ∧ x = .badField) ∨
          (c.cls ≤ 3 ∧
            ((r.place = none ∧ x = .unmapped) ∨
              (r.place ≠ none ∧
                ((r.guarded = true ∧ c.cls < 3 ∧ x = .protected_) ∨
                  ((r.guarded = true → c.cls = 3) ∧
                    (((a = .lock ∨ a = .pulse) ∧ s.fireLatch = true ∧ r.egress = true ∧ x = .fire) ∨
                      (¬((a = .lock ∨ a = .pulse) ∧ s.fireLatch = true ∧ r.egress = true) ∧
                        ((c.cls < (s.zone r.zone).floor ∧ x = .belowFloor) ∨
                          ((s.zone r.zone).floor ≤ c.cls ∧
                            (((a = .lock ∨ a = .release) ∧ overridden ∧ x = .belowFloor) ∨
                              (a = .pulse ∧ (s.entryOf c.door).isSome = true ∧ x = .doorBusy) ∨
                              (a = .pulse ∧ s.entryOf c.door = none ∧ r.target ≠ some .locked ∧
                                x = .notLocked) ∨
                              (a = .pulse ∧ s.entryOf c.door = none ∧ r.target = some .locked ∧
                                r.agreement = .unknown ∧ x = .unreachable) ∨
                              (a = .cancel ∧ r.override = none ∧ x = .noOverride) ∨
                              (a = .cancel ∧ overridden ∧ x = .belowFloor)))))))))))))) →
    exec (match a with
      | .release => .release c | .lock => .lock c | .pulse => .pulse c | .query => .query c
      | .cancel => .cancelOverride c) s =
      .next (s.answer (.door c.tag c.door a.code x
        (if x = .fire ∨ x = .doorBusy ∨ x = .notLocked ∨ x = .unreachable ∨ x = .noOverride then
          some ⟨r.bolt, r.leaf, r.target, r.agreement, r.override⟩ else none) none))) ∧
  ∀ (c : DoorCmd) (s : State), s.takes → s.doorCheck .query c = none →
    let r := s.door c.door
    exec (.query c) s = .next (s.answer (.door c.tag c.door 4 .accepted
      (some ⟨r.bolt, r.leaf, r.target, r.agreement, r.override⟩)
      (some ⟨r.tamper, r.alarms, r.lastBy⟩)))

/-- R15, R18, R22, R73, R74, R150, R151, R156, R158, R161: LOCK and RELEASE write the override and its target, whole;
NO-CHANGE exactly for an equal override with an unchanged target, under the latch too (log 46). A door IN-STEP,
HELD-OUT or DEFERRED is driven where its bolt is not where the target wants it. Where it is, a HELD-OUT or DEFERRED
one becomes IN-STEP: without a notice for an unchanged target (log 48); for a changed one R22 raises a notice and
R158 none, and a free value decides (log 50). Every other door, and the schedule, stay. -/
def Obligations.LockAndReleaseSetTheOverride : Prop :=
  ∀ (l : LockState) (c : DoorCmd) (s : State), s.takes → QueueInv s →
    s.doorCheck (if l = .locked then .lock else .release) c = none →
    let o : Override := ⟨l, c.cls, if c.duration = 0 then .untilTransition
      else .minutes (min 1440 c.duration)⟩
    let r := s.door c.door
    let target : Target := if s.fireLatch = true ∧ r.egress = true then some .released else some l
    ∃ t, exec (if l = .locked then .lock c else .release c) s = .next t ∧
      (t.door c.door).override = some o ∧ (t.door c.door).target = target ∧
      (t.door c.door).toDoorConfig = r.toDoorConfig ∧ (t.door c.door).bolt = r.bolt ∧
      (t.door c.door).alarms = r.alarms ∧
      (r.agreement = .unknown → t.entryOf c.door = none ∧ (t.door c.door).agreement = .unknown) ∧
      (r.agreement = .inStep → target ≠ r.target → r.bolt.satisfies target = false →
        t.entryOf c.door = some ⟨c.door, .drive (target.getD .locked), .override, s.count, 0, .pending⟩) ∧
      (r.agreement = .inStep → (target = r.target ∨ r.bolt.satisfies target = true) →
        t.entryOf c.door = none ∧ (t.door c.door).agreement = .inStep) ∧
      (r.agreement = .inStep → t.notices = s.notices) ∧
      (r.agreement.isPutAside = true → r.bolt.satisfies target = true →
        t.entryOf c.door = none ∧ (t.door c.door).agreement = .inStep ∧
        (s.notices.length < 64 →
          t.notices = if target ≠ r.target ∧ Config.noticeWithoutEntry s.count = true
            then s.told [t.statusNotice c.door] else s.notices)) ∧
      (r.agreement.isPutAside = true → r.bolt.satisfies target = false →
        t.entryOf c.door = some ⟨c.door, .drive (target.getD .locked), .override, s.count, 0, .pending⟩ ∧
        (t.door c.door).agreement = .queued ∧ t.notices = s.notices) ∧
      (∀ e, s.entryOf c.door = some e → target = r.target → t.entryOf c.door = some e) ∧
      (∀ e a, s.entryOf c.door = some e → e.phase = .issued a → target ≠ r.target →
        t.entryOf c.door = some { e with
          origin := .override,
          phase := .issued { a with
            retarget := if e.target = .drive (target.getD .locked) then none else some target } }) ∧
      (target = some .released → target ≠ r.target → (t.door c.door).snapshot = none) ∧
      t.answers = s.answers ++ [.door c.tag c.door (if l = .locked then 2 else 1)
        (if r.override = some o ∧ target = r.target then .noChange else .accepted)
        (some ⟨r.bolt, r.leaf, target, (t.door c.door).agreement, some o⟩) none] ∧
      (∀ k, k ≠ c.door → t.door k = s.door k ∧ t.entryOf k = s.entryOf k) ∧
      t.storedTables = s.storedTables ∧ t.windows = s.windows ∧ t.fireLatch = s.fireLatch

/-- R15, R18, R22, R75, R152, R153, R158: PULSE adds an entry and moves no target; CANCEL-OVERRIDE removes the override
and hands the door back, with an OVERRIDE entry where its changed target needs one. A HELD-OUT or DEFERRED door
whose bolt satisfies the changed target becomes IN-STEP, for which R22 raises a notice and R158 none: a free value
decides (log 50); an unchanged target leaves it as it is. -/
def Obligations.PulseAndCancelOverride : Prop :=
  ∀ (c : DoorCmd) (s : State), s.takes → QueueInv s →
    let r := s.door c.door
    (s.doorCheck .pulse c = none →
      ∃ t, exec (.pulse c) s = .next t ∧
        t.queue = s.queue ++
          [⟨c.door, .pulse (max 1 (min 60 c.pulse)), .pulse, s.count, 0, .pending⟩] ∧
        (t.door c.door).agreement = .queued ∧ (t.door c.door).target = some .locked ∧
        (t.door c.door).override = r.override ∧ (t.door c.door).snapshot = none ∧
        t.answers = s.answers ++ [.door c.tag c.door 3 .accepted
          (some ⟨r.bolt, r.leaf, some .locked, .queued, r.override⟩) none] ∧
        t.notices = s.notices ∧ t.zones = s.zones ∧ ∀ k, k ≠ c.door → t.door k = s.door k) ∧
    (s.doorCheck .cancel c = none →
      ∃ t, exec (.cancelOverride c) s = .next t ∧ (t.door c.door).override = none ∧
        (t.door c.door).target =
          (if s.fireLatch = true ∧ r.egress = true then some .released
          else match (s.zone r.zone).scheduled with
            | some .secure => some .locked
            | some .opened => some .released
            | none => none) ∧
        ((t.door c.door).target = r.target → t.entryOf c.door = s.entryOf c.door ∧
          (t.door c.door).agreement = r.agreement ∧ t.notices = s.notices) ∧
        (r.agreement = .unknown → t.entryOf c.door = none ∧ (t.door c.door).agreement = .unknown) ∧
        ((r.agreement = .inStep ∨ r.agreement.isPutAside = true) → (t.door c.door).target ≠ r.target →
          (r.bolt.satisfies (t.door c.door).target = true →
            t.entryOf c.door = none ∧ (t.door c.door).agreement = .inStep ∧
            (s.notices.length < 64 →
              t.notices = if r.agreement.isPutAside = true ∧ Config.noticeWithoutEntry s.count = true
                then s.told [t.statusNotice c.door] else s.notices)) ∧
          (r.bolt.satisfies (t.door c.door).target = false → t.notices = s.notices ∧
            t.entryOf c.door = some ⟨c.door, .drive ((t.door c.door).target.getD .locked), .override, s.count, 0,
              .pending⟩ ∧
            (t.door c.door).agreement = .queued)) ∧
        t.storedTables = s.storedTables ∧
        (∀ k, k ≠ c.door → t.door k = s.door k ∧ t.entryOf k = s.entryOf k) ∧
        ∃ v, t.answers = s.answers ++ [.door c.tag c.door 5 .accepted (some v) none])

/-! ### The site link -/

/-- R173, R146, R92: the frames that reach no owner, each answered and without another effect: BAD-REQUEST while a
save runs or the tables are loaded too (log 21). A ZONE SWEEP of an unknown action is answered as its owner would
answer it (log 24), BAD-INDEX where its zone is bad too by the model's choice (log 54). -/
def Obligations.MisformedFramesAreAnswered : Prop :=
  ∀ (tag kind : Nat) (body : List Byte) (s : State), s.takes →
    (kind ≠ 1 → kind ≠ 3 →
      exec (.unknownFrameKind tag kind) s = .next (s.answer (.mgmt tag 0 .badRequest []))) ∧
    (body = [] →
      exec (.unknownRequestCode tag body) s = .next (s.answer (.mgmt tag 0 .badRequest []))) ∧
    (∀ code rest, body = code :: rest → (code = 0x2A#8 → rest.length ≠ 2) →
      requestOf tag body = .unknownRequestCode tag body →
      exec (.unknownRequestCode tag body) s =
        .next (s.answer (.mgmt tag code.toNat .badRequest []))) ∧
    (∀ zone action, body = [0x2A#8, zone, action] → 4 ≤ action.toNat → s.loader = .idle →
      exec (.unknownRequestCode tag body) s = .next (s.answer (.mgmt tag 0x2A
        (if 63 < zone.toNat ∧ zone.toNat ≠ 255 then .badIndex else .badValue) []))) ∧
    (doorCommandOf tag body = .doorCommandInvalid tag body →
      exec (.doorCommandInvalid tag body) s = .next (s.answer (.door tag
        (match body with
          | d1 :: d0 :: _ => d1.toNat * 256 + d0.toNat
          | _ => 0xFFFF)
        (match body with
          | _ :: _ :: a :: _ => a.toNat
          | _ => 0xFF)
        (if s.isStarting then .starting else .badField) none none)))

/-- R174, R175: the transmitter takes the oldest answer, or after four in a row the oldest notice. -/
def Obligations.TransmitterChoosesInTurn : Prop :=
  ∀ s : State, s.powered = true → SiteInv s →
    (s.answers = [] → s.notices = [] →
      exec .transmitComplete s = .next { s with sending := none, answersInRow := 0 }) ∧
    (∀ n ns, s.notices = n :: ns → s.answers = [] ∨ s.answersInRow = 4 →
      exec .transmitComplete s =
        .next { s with notices := ns, sending := some (n.line s.unit), answersInRow := 0 }) ∧
    (∀ a as, s.answers = a :: as → s.notices = [] ∨ s.answersInRow < 4 →
      exec .transmitComplete s = .next { s with
        answers := as ++ s.saveAnswers.take 1, saveAnswers := s.saveAnswers.drop 1,
        sending := some (a.line s.unit),
        answersInRow := if s.notices = [] then 0 else s.answersInRow + 1 })

/-- R34, R179, R180: READ STATUS, READ TIME and CLEAR RESYNC are carried out at all times; the first two
change nothing. How their values are coded is R187's, by place where no layout gives a code (log 47). -/
def Obligations.StatusRequestsAnswerAtAllTimes : Prop :=
  ∀ (tag : Nat) (s : State), s.takes →
    exec (.readTime tag) s = .next (s.answer (.mgmt tag 0x11 .ok
      [.n1 (if s.clock = .unset then 0 else 1), .n2 s.minute, .n1 s.second, .n1 s.tenths,
        .n4 s.count.toNat, (match s.evaluated with | some e => .n2 e | none => .absent 2),
        .n1 (if s.backupValid then 0 else 1)])) ∧
    exec (.clearResync tag) s = .next ({ s with resync := false }.answer (.mgmt tag 0x02 .ok
      [.n1 (if s.resync then 1 else 0), .n2 s.notices.length, .n1 s.noticeNumber])) ∧
    exec (.readStatus tag) s = .next (s.answer (.mgmt tag 0x01 .ok
      ([.n1 s.unit, .n1 (if s.rateHigh then 1 else 0), .n1 (if s.resync then 1 else 0),
        .n2 s.notices.length, .n1 s.noticeNumber, .n1 (if s.loader = .idle then 0 else 1),
        .n1 (if s.isStarting then 1 else 0), .n1 (if s.clock = .unset then 0 else 1),
        .n1 (if s.evaluator = .waiting then 0 else 1), .n1 s.plan, .n2 s.queue.length, .n1 s.gap,
        .n1 (if s.fireLine then 0 else 1), .n1 (if s.fireLatch then 1 else 0), .n2 s.fireCount] ++
      (List.range 8).flatMap fun t =>
        [.n1 (s.trunk t).state.code, .n1 (s.trunk t).ownership.code])))

/-- R24, R30, R52, R98, R126, R143, R147, R184: what a LINK RESET forgets and what it keeps. -/
def Obligations.LinkResetForgetsTheDoors : Prop :=
  ∀ (tag : Nat) (s : State), s.serves →
    ∃ t, exec (.linkReset tag) s = .next t ∧ t.answers = s.answers ++ [.mgmt tag 0x03 .ok []] ∧
      t.queue = [] ∧ t.resync = true ∧ t.receiver = s.receiver ∧ t.sending = s.sending ∧
      ((∀ k, k < 8 → (s.trunk k).isHeld = false) → t.notices = [] ∧ t.noticeNumber = 0) ∧
      (∀ d, d < 504 → (s.door d).place ≠ none → t.door d = { s.door d with
        bolt := .unknown, leaf := .unknown, tamper := false, snapshot := none,
        agreement := .unknown }) ∧
      (∀ z, z < 64 → t.zone z = { s.zone z with paused := none, tallies := .zero }) ∧
      (∀ k, k < 8 → (s.trunk k).state ≠ .disabled →
        (t.trunk k).state = .rollCall ∧ (t.trunk k).roster = [] ∧
        (t.trunk k).polarity = .undetermined ∧ (t.trunk k).rate = .r9600 ∧
        (t.trunk k).supply = .normal ∧ (t.trunk k).startCall = true ∧
        (t.trunk k).toTrunkConfig = (s.trunk k).toTrunkConfig) ∧
      (∀ k, k < 8 → (s.trunk k).state = .disabled → t.trunk k = s.trunk k) ∧
      t.evaluated = s.evaluated ∧ t.evaluator = s.evaluator ∧ t.windows = s.windows ∧
      t.plan = s.plan ∧ t.gap = s.gap ∧ t.clock = s.clock ∧ t.minute = s.minute ∧ t.count = s.count ∧
      t.fireLine = s.fireLine ∧ t.fireLatch = s.fireLatch ∧ t.fireCount = s.fireCount

/-! ### Stored settings -/

/-- R49, R174, R176, R188, R191, R192: a save from its request to its end, page by page. A written page holds, in
every record that begins in it, what that record's owner holds at that moment, and every other stored record stays:
one whose page was written before keeps what was stored, whatever the window table has become since (R49). The 56
pages, whatever the memory held, leave the whole image of the working tables, and the image fills the 56 pages of
R188. A SAVE SETTINGS is accepted whatever the answer list holds (log 18); a page is in the memory from the
acknowledgement of the page before it (log 19); how the records fill the pages is the model's choice (log 20). -/
def Obligations.SavesRunPageByPage : Prop :=
  (∀ owner stored : Image,
    (List.range 56).foldl (fun i k => owner.copyPage k i) stored = owner) ∧
  (∀ i : Image, i.bytes.length = 56 * 64) ∧
  ∀ (tag : Nat) (s : State), s.powered = true →
    let old := s.memory.image
    let pageIs (k : Nat) (i : Image) : Prop :=
      (∀ d, d < 504 → i.doors.getD d .unmapped =
        if 4 * d / 64 = k then (s.door d).toDoorConfig else old.doors.getD d .unmapped) ∧
      (∀ z, z < 64 → i.zones.getD z .default_ =
        if (2016 + 7 * z) / 64 = k then (s.zone z).toZoneConfig else old.zones.getD z .default_) ∧
      (∀ c, c < 8 → i.classes.getD c .default_ =
        if (2464 + 2 * c) / 64 = k then s.lockClass c else old.classes.getD c .default_) ∧
      (∀ w, w < 128 → i.windows.getD w none =
        if (2480 + 8 * w) / 64 = k then s.windows.getD w none else old.windows.getD w none) ∧
      i.plan = (if k = 54 then s.plan else old.plan) ∧ i.gap = (if k = 54 then s.gap else old.gap) ∧
      ∀ t, t < 8 → i.trunks.getD t .default_ =
        if (3506 + 6 * t) / 64 = k then (s.trunk t).toTrunkConfig else old.trunks.getD t .default_
    let ended (result : MgmtResult) (t : State) : State :=
      if s.answers.length < 8 then { t with answers := s.answers ++ [.mgmt tag 0x04 result []] }
      else { t with saveAnswers := s.saveAnswers ++ [.mgmt tag 0x04 result []] }
    (s.loader = .idle →
      exec (.saveSettings tag) s = .next { s with loader := .saving tag .clearMarker }) ∧
    (s.loader ≠ .idle → s.answers.length < 8 →
      exec (.saveSettings tag) s = .next (s.answer (.mgmt tag 0x04 .busy []))) ∧
    (s.loader = .saving tag .clearMarker → ∃ i, pageIs 0 i ∧
      exec .savePageWritten s = .next { s with
        loader := .saving tag (.page 0), memory := ⟨false, i, s.memory.check⟩ }) ∧
    (∀ k, s.loader = .saving tag (.page k) → k < 55 → ∃ i, pageIs (k + 1) i ∧
      exec .savePageWritten s = .next { s with
        loader := .saving tag (.page (k + 1)), memory := ⟨s.memory.marker, i, s.memory.check⟩ }) ∧
    (∀ k w changed, s.loader = .saving tag (.page k) → k < 55 → w < 128 → (2480 + 8 * w) / 64 ≤ k →
      ∃ t, exec .savePageWritten { s with windows := changed } = .next t ∧ t.windows = changed ∧
        t.memory.image.windows.getD w none = old.windows.getD w none) ∧
    (s.loader = .saving tag (.page 55) →
      exec .savePageWritten s = .next { s with loader := .saving tag .setMarker }) ∧
    (s.loader = .saving tag .setMarker →
      exec .savePageWritten s = .next (ended .ok { s with
        loader := .idle, memory := ⟨true, old, old.check⟩ })) ∧
    (∀ k, s.loader = .saving tag k →
      exec .saveAckTimeout s = .next (ended .failed { s with loader := .idle }))

/-- R23, R188, R189: a valid image is loaded whole; otherwise every table takes its defaults, never a mixture.
Every mapped door is UNKNOWN. -/
def Obligations.LoadingTakesImageOrDefaults : Prop :=
  ∀ (acknowledged : Bool) (s : State), s.powered = true → s.loader = .loading →
    let i := if acknowledged = true ∧ s.memory.marker = true ∧ s.memory.image.check = s.memory.check
      then s.memory.image else Image.defaults
    ∃ t, exec (.loadingComplete acknowledged) s = .next t ∧ t.loader = .idle ∧
      t.memory = s.memory ∧ t.answers = s.answers ∧
      t.storedTables = (i.doors.rows, i.zones.rows, i.classes.rows, i.plan, i.gap, i.trunks.rows) ∧
      ((∃ k, k < 8 ∧ (i.trunks.getD k .default_).enabled = true) →
        t.windows = i.windows ∧ t.evaluator = s.evaluator ∧ t.isStarting = true ∧
        ∀ d, d < 504 → (t.door d).override = none ∧ (t.door d).bolt = .unknown ∧
          (t.door d).leaf = .unknown ∧ (t.door d).alarms = ⟨false, false, false⟩ ∧
          (t.door d).lastBy = .part ∧
          (t.door d).agreement = (if (t.door d).place = none then .inStep else .unknown) ∧
          (t.door d).target = (if (t.door d).place ≠ none ∧ s.fireLatch = true ∧
            (t.door d).egress = true then some .released else none))

/-! ### The Door Map's requests and the reads -/

/-- R7, R8, R10, R11, R18, R22, R160, R161: LOAD DOOR is checked in order; accepted, it replaces the configuration,
keeps or forgets the live fields by its pair, and leaves the target that R10 gives. With the same pair a changed
target of a door that is not UNKNOWN is handed as CORRECTION where the bolt does not satisfy it and makes the door
IN-STEP where it does, and the snapshot follows the watched flag and the target. -/
def Obligations.LoadDoorReplacesTheRecord : Prop :=
  ∀ (tag : Nat) (q : LoadDoorReq) (s : State), s.serves → QueueInv s →
    let bad : Prop := 63 < q.zone ∨ 7 < q.lockClass ∨ 1 < q.mapped ∨ 1 < q.egress ∨ 1 < q.guarded ∨ 1 < q.watched ∨
      (q.mapped = 1 ∧ (7 < q.trunk ∨ q.node = 0 ∨ 63 < q.node))
    let c : DoorConfig := ⟨if q.mapped = 1 then some ⟨q.trunk, q.node⟩ else none, q.zone, q.lockClass,
      decide (q.egress = 1), decide (q.guarded = 1), decide (q.watched = 1)⟩
    (503 < q.door → exec (.loadDoor tag q) s = .next (s.answer (.mgmt tag 0x20 .badIndex []))) ∧
    (q.door ≤ 503 → bad →
      exec (.loadDoor tag q) s = .next (s.answer (.mgmt tag 0x20 .badValue []))) ∧
    (q.door ≤ 503 → ¬bad → (s.entryOf q.door).isSome = true →
      exec (.loadDoor tag q) s = .next (s.answer (.mgmt tag 0x20 .inUse []))) ∧
    (∀ k, q.door ≤ 503 → ¬bad → s.entryOf q.door = none → k < 504 →
      k ≠ q.door → c.place ≠ none → (s.door k).place = c.place →
      exec (.loadDoor tag q) s = .next (s.answer (.mgmt tag 0x20 .conflict []))) ∧
    (q.door ≤ 503 → ¬bad → s.entryOf q.door = none →
      (∀ k, k < 504 → k ≠ q.door → c.place ≠ none → (s.door k).place ≠ c.place) →
      let r := s.door q.door
      let target : Target :=
        if c.place = none then none
        else if s.fireLatch = true ∧ q.egress = 1 then some .released
        else match r.override, (s.zone q.zone).scheduled with
          | some o, _ => some o.action
          | none, some .secure => some .locked
          | none, some .opened => some .released
          | none, none => none
      let satisfied := r.bolt.satisfies target
      ∃ t, exec (.loadDoor tag q) s = .next t ∧
        t.answers = s.answers ++ [.mgmt tag 0x20 .ok []] ∧
        (t.door q.door).toDoorConfig = c ∧ (t.door q.door).target = target ∧
        (c.place ≠ none → (t.door q.door).override = r.override ∧
          (t.door q.door).alarms = r.alarms ∧ (t.door q.door).lastBy = r.lastBy) ∧
        (c.place ≠ none → c.place = r.place → (t.door q.door).bolt = r.bolt ∧
          (t.door q.door).leaf = r.leaf ∧ (t.door q.door).tamper = r.tamper) ∧
        (c.place ≠ none → c.place = r.place → (target = r.target ∨ r.agreement = .unknown) →
          (t.door q.door).agreement = r.agreement ∧ t.queue = s.queue ∧ t.notices = s.notices) ∧
        (c.place ≠ none → c.place = r.place → target ≠ r.target → r.agreement ≠ .unknown → satisfied = true →
          (t.door q.door).agreement = .inStep ∧ t.queue = s.queue ∧
          (r.agreement = .inStep → t.notices = s.notices) ∧
          (r.agreement ≠ .inStep → s.notices.length < 64 → t.notices = s.told [t.statusNotice q.door])) ∧
        (c.place ≠ none → c.place = r.place → target ≠ r.target → r.agreement ≠ .unknown → satisfied = false →
          (t.door q.door).agreement = .queued ∧ t.notices = s.notices ∧
          t.queue = s.queue ++
            [⟨q.door, .drive (target.getD .locked), .correction, s.count, 0, .pending⟩]) ∧
        (c.place ≠ none → c.place = r.place → q.watched = 1 → r.bolt = .thrown → r.leaf = .closed →
          target = some .locked → (t.door q.door).agreement = .inStep →
          (t.door q.door).snapshot = some (r.snapshot.getD ⟨.thrown, .closed⟩)) ∧
        (q.watched = 0 ∧ (r.watched = true ∨ r.snapshot = none) ∨ target ≠ some .locked ∨
            (t.door q.door).agreement = .queued → (t.door q.door).snapshot = none) ∧
        (c.place ≠ none → c.place ≠ r.place → (t.door q.door).bolt = .unknown ∧
          (t.door q.door).leaf = .unknown ∧ (t.door q.door).tamper = false ∧
          (t.door q.door).snapshot = none ∧ (t.door q.door).agreement = .unknown ∧
          t.queue = s.queue ∧ t.notices = s.notices) ∧
        (c.place = none → (t.door q.door).isBlank ∧ t.queue = s.queue ∧ t.notices = s.notices) ∧
        ∀ k, k ≠ q.door → t.door k = s.door k ∧ t.entryOf k = s.entryOf k)

/-- R5, R6, R9, R38, R122, R123, R181: READ DOOR, READ ZONE, READ CLASS, READ WINDOW, READ TRUNK, READ ROSTER and LIST
HELD-OUT answer the records as they stand, field by field, and change nothing; the last two in ascending order, with
their limits of 12 records and 20 doors. How READ DOOR codes its fields is read from R187 (log 23). -/
def Obligations.ReadsAnswerTheRecords : Prop :=
  (∀ (tag n : Nat) (s : State), s.takes → s.loader ≠ .loading →
    (503 < n → exec (.readDoor tag n) s = .next (s.answer (.mgmt tag 0x21 .badIndex []))) ∧
    (n ≤ 503 → exec (.readDoor tag n) s = .next (s.answer (.mgmt tag 0x21 .ok
      (let r := s.door n
      [.n1 (if r.place = none then 0 else 1),
        (match r.place with | some p => .n1 p.trunk | none => .absent 1),
        (match r.place with | some p => .n1 p.node | none => .absent 1),
        .n1 r.zone, .n1 r.lockClass, .n1 (if r.egress then 1 else 0), .n1 (if r.guarded then 1 else 0),
        .n1 (if r.watched then 1 else 0),
        .n1 (match r.override with
          | some ⟨.released, c, _⟩ => 192 + c % 4
          | some ⟨.locked, c, _⟩ => 128 + c % 4
          | none => 0),
        .n2 (match r.override with | some ⟨_, _, .minutes k⟩ => k | _ => 0),
        .n1 (r.bolt.code * 16 + r.leaf.code), .n1 (if r.tamper then 1 else 0),
        .n1 ((match r.target with | some .locked => 0 | some .released => 1 | none => 2) * 16 +
          r.agreement.code),
        .n1 (match r.agreement with | .heldOut .doorOpen => 1 | .heldOut .jammed => 2 | _ => 0),
        (match r.snapshot with | some x => .n1 (x.bolt.code * 16 + x.leaf.code) | none => .absent 1),
        .n1 ((if r.alarms.forced then 1 else 0) + (if r.alarms.keyed then 2 else 0) +
          (if r.alarms.tamper then 4 else 0)),
        .n1 r.lastBy.code])))) ∧
    (63 < n → exec (.readZone tag n) s = .next (s.answer (.mgmt tag 0x29 .badIndex []))) ∧
    (n ≤ 63 → exec (.readZone tag n) s = .next (s.answer (.mgmt tag 0x29 .ok
      (let z := s.zone n
      [.n1 z.defaultState.code, .n1 z.rank, .n1 z.floor, .n1 z.step, .n1 z.retry, .n1 z.limit,
        .n1 (if z.settle then 1 else 0),
        .n1 (match z.scheduled with | some .secure => 0 | some .opened => 1 | none => 2),
        .n1 (if z.paused = none then 0 else 1),
        (match z.paused with | some t => .n4 t.toNat | none => .absent 4),
        .n2 (s.queue.filter fun e => decide ((s.door e.door).zone = n) &&
          (decide (e.origin = .schedule) || decide (e.origin = .resweep) ||
            decide (e.origin = .restore))).length,
        .n2 z.tallies.enqueued, .n2 z.tallies.confirmed, .n2 z.tallies.heldOut,
        .n2 z.tallies.skipped, .n2 z.tallies.unreachable, .n2 z.tallies.already])))) ∧
    (7 < n → exec (.readClass tag n) s = .next (s.answer (.mgmt tag 0x31 .badIndex []))) ∧
    (n ≤ 7 → exec (.readClass tag n) s = .next (s.answer (.mgmt tag 0x31 .ok
      [.n1 (s.lockClass n).cost, .n1 (s.lockClass n).time]))) ∧
    (127 < n → exec (.readWindow tag n) s = .next (s.answer (.mgmt tag 0x3A .badIndex []))) ∧
    (n ≤ 127 → s.windows.getD n none = none →
      exec (.readWindow tag n) s = .next (s.answer (.mgmt tag 0x3A .ok
        [.n1 0, .absent 1, .absent 1, .absent 2, .absent 2, .absent 1, .absent 1, .absent 1,
          .absent 1]))) ∧
    (∀ w, n ≤ 127 → s.windows.getD n none = some w →
      exec (.readWindow tag n) s = .next (s.answer (.mgmt tag 0x3A .ok
        [.n1 1, .n1 (w.zone.getD 255), .n1 w.plans.toNat, .n2 w.start, .n2 w.length,
          .n1 w.action.code, .n1 w.priority, .n1 (if w.single then 1 else 0),
          .n1 (if w.matched then 1 else 0)])))) ∧
  ∀ (tag n a : Nat) (s : State), s.takes → s.loader ≠ .loading →
    (7 < n → exec (.readTrunk tag n) s = .next (s.answer (.mgmt tag 0x49 .badIndex []))) ∧
    (n ≤ 7 → exec (.readTrunk tag n) s = .next (s.answer (.mgmt tag 0x49 .ok
      (let r := s.trunk n
      [.n1 (if r.enabled then 1 else 0), .n1 r.budget, .n1 r.level, .n1 r.day, .n1 r.night,
        .n1 r.shared.code, .n1 r.state.code, .n1 r.ownership.code, .n1 r.polarity.code, .n1 r.rate.code,
        .n2 r.roster.length, .n2 (r.roster.filter Node.online).length,
        .n1 ((s.queue.filter fun e => (s.door e.door).isOn n).map Entry.reserved).sum,
        .n1 (if r.supply = .low then max 1 (r.budget / 2) else r.budget), .n1 r.supply.code,
        .n2 r.measured, .n1 (if r.request then 0 else 1)])))) ∧
    (7 < n → exec (.readRoster tag n a) s = .next (s.answer (.mgmt tag 0x4A .badIndex []))) ∧
    (n ≤ 7 → a = 0 ∨ 63 < a →
      exec (.readRoster tag n a) s = .next (s.answer (.mgmt tag 0x4A .badValue []))) ∧
    (n ≤ 7 → 1 ≤ a → a ≤ 63 →
      let all := (s.trunk n).roster.filter fun x => decide (a ≤ x.addr)
      exec (.readRoster tag n a) s = .next (s.answer (.mgmt tag 0x4A .ok
        ([.n1 (s.trunk n).state.code, .n1 (all.take 12).length] ++
          (all.take 12).flatMap (fun x => [.n1 x.addr, .n1 x.kind,
            .n1 (x.maxRate.code + (if x.online then 0 else 4) + 8 * x.missed)]) ++
          [.n1 (if 12 < all.length then 1 else 0)]))) ∧
      ((s.trunk n).rosterInv → (all.take 12).Pairwise (fun x y => x.addr < y.addr) ∧
        ∀ x ∈ (s.trunk n).roster, a ≤ x.addr → x ∉ all.take 12 →
          ∀ y ∈ all.take 12, y.addr < x.addr)) ∧
    (503 < n → exec (.listHeldOut tag n) s = .next (s.answer (.mgmt tag 0x22 .badIndex []))) ∧
    (n ≤ 503 → ∃ (ds : List Nat) (more : Nat), exec (.listHeldOut tag n) s = .next (s.answer (.mgmt tag 0x22 .ok
        (.n1 ds.length :: ds.map Field.n2 ++ [.n1 more]))) ∧
      ds.length ≤ 20 ∧ ds.Pairwise (· < ·) ∧
      (∀ d ∈ ds, n ≤ d ∧ d < 504 ∧ (s.door d).place ≠ none ∧ ∃ r, (s.door d).agreement = .heldOut r) ∧
      (∀ d, n ≤ d → d < 504 → (s.door d).place ≠ none → (∃ r, (s.door d).agreement = .heldOut r) →
        d ∉ ds → ds.length = 20 ∧ more = 1 ∧ ∀ k ∈ ds, k < d) ∧
      (more = 1 ∨ more = 0) ∧ (more = 1 → ∃ d, d ∉ ds ∧ n ≤ d ∧ d < 504 ∧
        (s.door d).place ≠ none ∧ ∃ r, (s.door d).agreement = .heldOut r))

/-- R5, R61, R166: LOAD CLASS, SET BATCH GAP and ACK ALARM set what they name and nothing else; ACK ALARM is carried
out while a save runs. That ACK ALARM answers BAD-VALUE for kinds above 7 is the model's inference (log 22), and
that it checks the door number first is its choice (log 51). -/
def Obligations.PlainLoadsSetTheirFields : Prop :=
  ∀ (tag n a b : Nat) (s : State), s.takes →
    (s.loader = .idle → n < 8 → exec (.loadClass tag n a b) s = .next
      ({ s with classes := s.classes.set n ⟨max 1 a, max 1 b⟩ }.answer (.mgmt tag 0x30 .ok []))) ∧
    (s.loader = .idle → 8 ≤ n → exec (.loadClass tag n a b) s = .next (s.answer (.mgmt tag 0x30 .badIndex []))) ∧
    (s.loader = .idle → n < 256 → exec (.setBatchGap tag n) s = .next
      ({ s with gap := n }.answer (.mgmt tag 0x40 .ok [.n1 s.gap, .n1 n]))) ∧
    (s.loader = .idle → 256 ≤ n → exec (.setBatchGap tag n) s = .next (s.answer (.mgmt tag 0x40 .badValue []))) ∧
    (s.loader ≠ .loading → 504 ≤ n → n ≠ 65535 →
      exec (.ackAlarm tag n a) s = .next (s.answer (.mgmt tag 0x23 .badIndex []))) ∧
    (s.loader ≠ .loading → n < 504 ∨ n = 65535 → a = 0 ∨ 7 < a →
      exec (.ackAlarm tag n a) s = .next (s.answer (.mgmt tag 0x23 .badValue []))) ∧
    (s.loader ≠ .loading → n < 504 ∨ n = 65535 → 1 ≤ a → a ≤ 7 →
      ∃ t, exec (.ackAlarm tag n a) s = .next t ∧
        (∀ d, d < 504 → t.door d = if n = 65535 ∨ d = n then
            { s.door d with alarms :=
              ⟨(s.door d).alarms.forced && decide (a % 2 = 0),
                (s.door d).alarms.keyed && decide (a / 2 % 2 = 0),
                (s.door d).alarms.tamper && decide (a / 4 = 0)⟩ }
          else s.door d) ∧
        t.answers = s.answers ++ [.mgmt tag 0x23 .ok [.n2
          ((List.range 504).filter fun d => decide (t.door d ≠ s.door d)).length]] ∧
        t.queue = s.queue ∧ t.zones = s.zones ∧ t.trunks = s.trunks ∧ t.notices = s.notices)

/-! ### Fire -/

/-- R10, R13, R18, R77, R117, R138, R139: the first assertion sets the latch and releases every egress door, and each
trunk ends a THROW or PULSE frame to an egress door's node with the abort trailer; any other transaction runs on. A
later assertion, and a negation, change the line state only. The FIRE notice stands before the doors' notices by
the model's choice (log 15). -/
def Obligations.FireLineSetsTheLatch : Prop :=
  ∀ s : State, s.powered = true →
    exec .fireNegated s = .next { s with fireLine := false } ∧
    (s.fireLatch = true → exec .fireAsserted s = .next { s with fireLine := true }) ∧
    (s.fireLatch = false → QueueInv s →
      ∃ t, exec .fireAsserted s = .next t ∧ t.fireLine = true ∧ t.fireLatch = true ∧
        t.fireCount = (s.fireCount + 1) % 65536 ∧
        (s.notices.length < 64 → ∃ more, t.notices =
          s.notices ++ [⟨s.noticeNumber, .fire true ((s.fireCount + 1) % 65536)⟩] ++ more) ∧
        (∀ d, d < 504 → (s.door d).place ≠ none → (s.door d).egress = true →
          (t.door d).target = some .released ∧
          ((s.door d).agreement = .unknown → (t.door d).agreement = .unknown) ∧
          ((s.door d).agreement ≠ .unknown → (s.door d).bolt ≠ .withdrawn →
            (t.door d).agreement = .queued ∧ ∃ e, t.entryOf d = some e ∧ e.origin = .fire) ∧
          ((s.door d).agreement ≠ .unknown → (s.door d).bolt = .withdrawn →
            (∀ e, s.entryOf d = some e → e.isIssued = false) →
            (t.door d).agreement = .inStep ∧ t.entryOf d = none)) ∧
        (∀ d, (s.door d).place = none ∨ (s.door d).egress = false → t.door d = s.door d) ∧
        (∀ k, k < 8 → (s.trunk k).transaction = none → (t.trunk k).transaction = none) ∧
        (∀ k x, k < 8 → (s.trunk k).transaction = some x →
          let barred := x.phase = .frame ∧ (∃ d, x.purpose = .command d ∧ (s.door d).egress = true) ∧
            ((∃ a, x.command = .throw a) ∨ ∃ a m, x.command = .pulse a m)
          (barred → (t.trunk k).transaction = some { x with phase := .trailer, rate := (s.trunk k).rate }) ∧
          (¬barred → (t.trunk k).transaction = some x)) ∧
        t.answers = s.answers ∧ t.storedTables = s.storedTables)

/-- R14, R18, R56, R140, R141: CLEAR FIRE by the latch and the line. The clear submits its notice, and hands the egress
doors whose target changed as RESTORE entries; a door whose target falls to NONE loses any entry (log 49). That the
FIRE notice stands ahead of the doors' is the model's choice (log 15). It is carried out while a save runs. -/
def Obligations.ClearFireFollowsTheLine : Prop :=
  ∀ (tag : Nat) (s : State), s.takes → s.loader ≠ .loading →
    (s.fireLatch = false → exec (.clearFire tag) s = .next (s.answer (.mgmt tag 0x50 .ok
      [.n1 0, .n1 (if s.fireLine then 0 else 1), .n2 s.fireCount]))) ∧
    (s.fireLatch = true → s.fireLine = true →
      exec (.clearFire tag) s = .next
        ((({ s with fireCount := (s.fireCount + 1) % 65536 }).submit
          (.fire true ((s.fireCount + 1) % 65536))).answer (.mgmt tag 0x50 .fireStillActive
            [.n1 1, .n1 0, .n2 ((s.fireCount + 1) % 65536)]))) ∧
    (s.fireLatch = true → s.fireLine = false → QueueInv s →
      ∃ t, exec (.clearFire tag) s = .next t ∧ t.fireLatch = false ∧ t.fireLine = false ∧
        t.fireCount = s.fireCount ∧
        t.answers = s.answers ++ [.mgmt tag 0x50 .ok [.n1 0, .n1 1, .n2 s.fireCount]] ∧
        (∀ d, d < 504 → (s.door d).place ≠ none → (s.door d).egress = true →
          (t.door d).target = match (s.door d).override with
            | some o => some o.action
            | none =>
              match (s.zone (s.door d).zone).scheduled with
              | some .secure => some .locked
              | some .opened => some .released
              | none => none) ∧
        (∀ d, d < 504 → (s.door d).place ≠ none → (s.door d).egress = true →
          let r := s.door d
          ((t.door d).target = r.target → t.entryOf d = s.entryOf d ∧
            (t.door d).agreement = r.agreement) ∧
          (r.agreement = .unknown → t.entryOf d = none ∧ (t.door d).agreement = .unknown) ∧
          ((t.door d).target = none → r.target ≠ none → r.agreement ≠ .unknown →
            t.entryOf d = none ∧ (t.door d).agreement = .inStep) ∧
          ∀ l, (t.door d).target = some l → r.target ≠ some l → r.agreement ≠ .unknown → r.zone < 64 →
            (r.bolt = l.bolt → (∀ e, s.entryOf d = some e → e.isIssued = false) →
              t.entryOf d = none ∧ (t.door d).agreement = .inStep) ∧
            (r.bolt ≠ l.bolt → (∀ e, s.entryOf d = some e → e.isIssued = false) →
              (t.door d).agreement = .queued ∧ ∃ off, off ≤ 65535 ∧
                t.entryOf d = some ⟨d, .drive l, .restore, s.count + BitVec.ofNat 32 off, 0, .pending⟩) ∧
            (∀ e a, s.entryOf d = some e → e.phase = .issued a →
              t.entryOf d = some { e with
                origin := .restore,
                phase := .issued { a with
                  retarget := if e.target = .drive l then none else some (some l) } })) ∧
        (s.notices.length < 64 → ∃ more,
          t.notices = s.notices ++ ⟨s.noticeNumber, .fire false s.fireCount⟩ :: more) ∧
        (∀ d, (s.door d).place = none ∨ (s.door d).egress = false → t.door d = s.door d) ∧
        t.storedTables = s.storedTables)

/-! ### Trunks -/

/-- R120, R121, R130 to R132: LOAD TRUNK stores the six fields; the change of enabled resets or disables the trunk;
without one the ownership machine takes the shared mode at once, with its notices and REQ. -/
def Obligations.LoadTrunkStoresSixFields : Prop :=
  ∀ (tag : Nat) (q : LoadTrunkReq) (s : State), s.serves →
    let bad : Prop := 1 < q.enabled ∨ q.budget = 0 ∨ 255 < q.budget ∨ 6 < q.level ∨
      q.day ∉ [2, 5, 15, 60] ∨ q.night ∉ [2, 5, 15, 60] ∨ 2 < q.shared
    let c : TrunkConfig := ⟨decide (q.enabled = 1), q.budget, q.level, q.day, q.night,
      if q.shared = 0 then .unshared else if q.shared = 1 then .twoLine else .threeLine⟩
    (7 < q.trunk → exec (.loadTrunk tag q) s = .next (s.answer (.mgmt tag 0x48 .badIndex []))) ∧
    (q.trunk ≤ 7 → bad →
      exec (.loadTrunk tag q) s = .next (s.answer (.mgmt tag 0x48 .badValue []))) ∧
    (q.trunk ≤ 7 → ¬bad → c.budget ≠ (s.trunk q.trunk).budget →
      0 < s.reserved q.trunk →
      exec (.loadTrunk tag q) s = .next (s.answer (.mgmt tag 0x48 .notNow []))) ∧
    (q.trunk ≤ 7 → ¬bad →
      (c.budget = (s.trunk q.trunk).budget ∨ s.reserved q.trunk = 0) →
      ∃ t, exec (.loadTrunk tag q) s = .next t ∧
        t.answers = s.answers ++ [.mgmt tag 0x48 .ok []] ∧
        (t.trunk q.trunk).toTrunkConfig = c ∧
        ((s.trunk q.trunk).enabled = false → c.enabled = true →
          (t.trunk q.trunk).state = .rollCall ∧ (t.trunk q.trunk).roster = [] ∧
          (t.trunk q.trunk).rate = .r9600) ∧
        ((s.trunk q.trunk).enabled = true → c.enabled = false →
          (t.trunk q.trunk).state = .disabled ∧ (t.trunk q.trunk).roster = [] ∧
          (t.trunk q.trunk).request = false ∧ (t.trunk q.trunk).startCall = false) ∧
        ((s.trunk q.trunk).enabled = c.enabled →
          let r := s.trunk q.trunk
          let r' := t.trunk q.trunk
          t.doors = s.doors ∧ t.zones = s.zones ∧ r'.state = r.state ∧
          r'.request = (decide (c.shared = .threeLine) && decide (r'.ownership = .yielded) &&
            s.hasWork q.trunk) ∧
          (r.ownership = .idleOwner → c.shared ≠ .unshared → r.hold = true →
            r'.ownership = .yielded ∧
            (s.notices.length < 64 → t.notices = s.told [.trunk q.trunk .yielded])) ∧
          (r.ownership = .idleOwner → c.shared = .unshared ∨ r.hold = false →
            r'.ownership = .idleOwner ∧ t.notices = s.notices) ∧
          (r.ownership = .yielded → r.state = .running → c.shared = .unshared ∨ r.hold = false →
            r'.ownership = .idleOwner ∧
            (s.notices.length < 64 → t.notices = s.told [.trunk q.trunk .owned])) ∧
          (r.ownership = .yielded → c.shared ≠ .unshared → r.hold = true →
            r'.ownership = .yielded ∧ t.notices = s.notices) ∧
          (r.ownership = .driving ∨ r.ownership = .reset →
            r'.ownership = r.ownership ∧ t.notices = s.notices)))

/-- R24, R87, R88, R99, R117, R124, R126: a RESET TRUNK ends a frame with the abort trailer at the trunk's rate or
abandons its reply window, applies the retarget of the attempt it ends, empties its roster, removes its entries and
makes its doors UNKNOWN; the other trunks, and the doors on them, stay as they were. That the trunk is DRIVING, not
RESET, while the trailer is sent is the model's inference (log 11).
R106, R129, R131: the roll call begins at once, after the trailer (log 13) or when the abandoned window would have
closed, with the RATE broadcast at 76800 and DRIVING; where HOLD is in force the trunk is YIELDED, with its notice
after the ZONE SETTLED notices of the reset (log 15), and begins nothing. -/
def Obligations.ResetTrunkForgetsItsDoors : Prop :=
  ∀ (tag n : Nat) (s : State), s.takes → s.loader ≠ .loading → QueueInv s →
    let begun (r : Trunk) : Prop := r.state = .rollCall ∧ r.ownership = .driving ∧
      r.transaction = some ⟨.rate .r9600, .rateReset, .r76800, .frame, false⟩
    let settled (t : State) : List Notice := (List.range 64).flatMap fun z => t.settledNotices s z
    (7 < n → exec (.resetTrunk tag n) s = .next (s.answer (.mgmt tag 0x4B .badIndex []))) ∧
    (n ≤ 7 → (s.trunk n).state = .disabled →
      exec (.resetTrunk tag n) s = .next (s.answer (.mgmt tag 0x4B .notNow []))) ∧
    (n ≤ 7 → (s.trunk n).state ≠ .disabled →
      ∃ t, exec (.resetTrunk tag n) s = .next t ∧
        t.answers = s.answers ++ [.mgmt tag 0x4B .ok []] ∧
        (t.trunk n).state = .rollCall ∧ (t.trunk n).roster = [] ∧
        (t.trunk n).polarity = .undetermined ∧ (t.trunk n).rate = .r9600 ∧
        (t.trunk n).supply = .normal ∧ (t.trunk n).toTrunkConfig = (s.trunk n).toTrunkConfig ∧
        t.reserved n = 0 ∧
        t.queue = s.queue.filter (fun e => !(s.door e.door).isOn n) ∧
        (∀ d, d < 504 → (s.door d).isOn n = true → (t.door d).agreement = .unknown ∧
          (t.door d).bolt = .unknown ∧ (t.door d).leaf = .unknown ∧ (t.door d).snapshot = none ∧
          (t.door d).target = (s.door d).target ∧ (t.door d).override = (s.door d).override ∧
          (t.door d).alarms = (s.door d).alarms) ∧
        (∀ d, (s.door d).isOn n = false → t.door d = s.door d) ∧
        (∀ k, k ≠ n → t.trunk k = s.trunk k) ∧
        (∀ x, (s.trunk n).transaction = some x → x.phase = .frame →
          (t.trunk n).ownership = .driving ∧
          (t.trunk n).transaction = some { x with phase := .trailer, rate := (s.trunk n).rate }) ∧
        (∀ x, (s.trunk n).transaction = some x → x.phase = .window →
          (t.trunk n).transaction = none ∧ (t.trunk n).windowWait = true) ∧
        ((∀ x, (s.trunk n).transaction = some x → x.phase = .window) → (s.trunk n).isHeld = true →
          (t.trunk n).ownership = .yielded ∧ (t.trunk n).transaction = none ∧
          (s.notices.length + (settled t).length < 64 →
            t.notices = s.told (settled t ++ [.trunk n .yielded]))) ∧
        ((s.trunk n).isHeld = false ∨ (t.trunk n).transaction ≠ none →
          (s.notices.length + (settled t).length ≤ 64 → t.notices = s.told (settled t))) ∧
        ((s.trunk n).transaction = none → (s.trunk n).windowWait = false → (s.trunk n).isHeld = false →
          begun (t.trunk n)) ∧
        (∀ x, (s.trunk n).transaction = some x → x.phase = .window → (s.trunk n).isHeld = false →
          (t.trunk n).ownership = .idleOwner) ∧
        (∀ x d e a, (s.trunk n).transaction = some x → x.phase = .frame → x.purpose = .command d →
          (s.door d).isOn n = true → s.entryOf d = some e → e.phase = .issued a →
          e.origin.isBatch = true → (s.door d).zone < 64 →
          (t.zone (s.door d).zone).tallies.confirmed = (s.zone (s.door d).zone).tallies.confirmed +
            (if a.retarget = some (some .locked) ∧ (s.door d).bolt = .thrown ∨
              a.retarget = some (some .released) ∧ (s.door d).bolt = .withdrawn then 1 else 0) ∧
          (t.zone (s.door d).zone).tallies.unreachable = (s.zone (s.door d).zone).tallies.unreachable +
            (s.queue.filter fun y => (s.door y.door).isOn n && y.origin.isBatch &&
              decide ((s.door y.door).zone = (s.door d).zone)).length -
            (if a.retarget = some none ∨ a.retarget = some (some .locked) ∧ (s.door d).bolt = .thrown ∨
              a.retarget = some (some .released) ∧ (s.door d).bolt = .withdrawn then 1 else 0))) ∧
    (n ≤ 7 → (s.trunk n).state = .rollCall → (s.trunk n).rollStep = .rateReset 0 →
      ((s.trunk n).windowWait = true → (s.trunk n).transaction = none →
        ∃ t, exec (.replyWindowClose n) s = .next t ∧ t.notices = s.notices ∧
          (t.trunk n).windowWait = false ∧
          ((s.trunk n).ownership = .idleOwner → begun (t.trunk n)) ∧
          ((s.trunk n).ownership = .yielded →
            (t.trunk n).ownership = .yielded ∧ (t.trunk n).transaction = none)) ∧
      (∀ x, (s.trunk n).windowWait = false → (s.trunk n).transaction = some x → x.phase = .trailer →
        ∃ t, exec (.abortTrailerSent n) s = .next t ∧
          ((s.trunk n).isHeld = false → begun (t.trunk n) ∧ t.notices = s.notices) ∧
          ((s.trunk n).isHeld = true → (t.trunk n).ownership = .yielded ∧ (t.trunk n).transaction = none ∧
            (s.notices.length < 64 → t.notices = s.told [.trunk n .yielded]))))

/-- R113: a due follow-up or close-watch poll goes first, then the queue's candidate, then a due routine poll or
recovery turn; each takes the earliest due and, among equal dues, the lowest address. -/
def Obligations.SelectorServesDuesInOrder : Prop :=
  ∀ (n : Nat) (s : State), s.runs n → (s.trunk n).ownership = .idleOwner →
    (s.trunk n).transaction = none → (s.trunk n).rosterInv →
    let first (dues : List (Tenths × Nat × Purpose)) (x : Tenths × Nat × Purpose) : Prop :=
      x ∈ dues ∧ s.arrived x.1 = true ∧
      ∀ y ∈ dues, s.arrived y.1 = true →
        s.since y.1 < s.since x.1 ∨ (s.since y.1 = s.since x.1 ∧ x.2.1 ≤ y.2.1)
    let idle (dues : List (Tenths × Nat × Purpose)) : Prop := ∀ y ∈ dues, s.arrived y.1 = false
    let polled (x : Tenths × Nat × Purpose) : Prop :=
      exec (.selectNextTransaction n) s = .next (s.onTrunk n fun r => { r with
        ownership := .driving,
        transaction := some ⟨.poll x.2.1, x.2.2, (s.trunk n).rate, .frame, false⟩ })
    ((∃ y ∈ (s.trunk n).watchDues, s.arrived y.1 = true) →
      ∃ x, first (s.trunk n).watchDues x ∧ polled x) ∧
    (idle (s.trunk n).watchDues → s.candidate n = none →
      (∃ y ∈ (s.trunk n).roundDues, s.arrived y.1 = true) →
      ∃ x, first (s.trunk n).roundDues x ∧ polled x) ∧
    (idle (s.trunk n).watchDues → s.candidate n = none → idle (s.trunk n).roundDues →
      exec (.selectNextTransaction n) s = .next s)

/-- R77 to R81: the queue offers the best of the entries that are PENDING with their due arrived, of a node ONLINE on
the trunk, of a zone not paused or of origin FIRE, OVERRIDE or PULSE, and not barred by the latch: the lowest
urgency, then the earliest due, then the older entry. Where it does not fit the budget, or there is none, nothing is
offered. Taken, it is ISSUED with its cost, its time and its limit. -/
def Obligations.SelectorIssuesTheBestEntry : Prop :=
  ∀ (n : Nat) (s : State), s.runs n → (s.trunk n).ownership = .idleOwner → (s.trunk n).transaction = none →
    QueueInv s →
    let eligible (x : Entry) : Prop := x ∈ s.queue ∧ x.phase = .pending ∧ s.arrived x.due = true ∧
      (∃ a m, (s.door x.door).place = some ⟨n, a⟩ ∧ (s.trunk n).node a = some m ∧ m.online = true) ∧
      ((s.zone (s.door x.door).zone).paused = none ∨
        x.origin = .fire ∨ x.origin = .override ∨ x.origin = .pulse) ∧
      (s.fireLatch = true → (s.door x.door).egress = true → x.target = .drive .released)
    let best (e : Entry) : Prop := eligible e ∧ ∃ before after, s.queue = before ++ e :: after ∧
      (∀ x ∈ before, eligible x → e.origin.urgency < x.origin.urgency ∨
        (e.origin.urgency = x.origin.urgency ∧ s.since x.due < s.since e.due)) ∧
      (∀ x ∈ after, eligible x → e.origin.urgency < x.origin.urgency ∨
        (e.origin.urgency = x.origin.urgency ∧ s.since x.due ≤ s.since e.due))
    let cost (e : Entry) : Nat := (s.lockClass (s.door e.door).lockClass).cost
    let fits (e : Entry) : Prop :=
      s.reserved n = 0 ∨ cost e + s.reserved n ≤ (s.trunk n).effectiveBudget
    ((∀ x, ¬eligible x) → s.candidate n = none) ∧
    ((∃ x, eligible x) → ∃ e, best e) ∧
    ∀ e, best e →
      (¬fits e → s.candidate n = none) ∧
      (fits e → s.candidate n = some e ∧
        ((∀ y ∈ (s.trunk n).watchDues, s.arrived y.1 = false) →
          let a : Attempt := ⟨cost e, s.count, s.after (2 * (s.lockClass (s.door e.door).lockClass).time +
            match e.target with | .drive _ => 0 | .pulse k => 10 * k), none, false⟩
          ∃ t, exec (.selectNextTransaction n) s = .next t ∧
            t.entryOf e.door = some { e with phase := .issued a } ∧
            (t.door e.door).lastBy = .part ∧ (t.trunk n).ownership = .driving ∧
            (∃ p, (s.door e.door).place = some ⟨n, p⟩ ∧
              (t.trunk n).transaction = some ⟨(match e.target with
                | .drive .locked => .throw p | .drive .released => .withdraw p | .pulse k => .pulse p k),
                .command e.door, (s.trunk n).rate, .frame, false⟩) ∧
            t.reserved n = s.reserved n + cost e ∧
            ∀ k, k ≠ e.door → t.door k = s.door k ∧ t.entryOf k = s.entryOf k))

/-- R2, R103, R104, R114: an accepted reply to a poll or a command is written into the door's record, clears the node's
missed count, sets its routine due and ends the transaction; after a close-watch poll, the next is due 20 tenths
later while the entry waits on. A ROLL's reply enters the node in the roster, with a notice where no door is mapped
there (R108), and the roll call goes on, ends or yields (R107, R109, R129): its next frame is on the line within the
same command (log 13). A reply counts as in its window while the model has the frame on the line (log 10). -/
def Obligations.RepliesAreObserved : Prop :=
  ∀ (n a d : Nat) (s : State) (x : Transaction) (bs : List Byte) (inv : Bool) (o : Status),
    s.powered = true → n < 8 → s.evaluator = .active → (s.trunk n).transaction = some x →
    x.command.addr = some a → x.phase ≠ .trailer → x.spoiled = false →
    acceptStatus (s.trunk n).polarity a bs = some (inv, o) →
    (s.doorAt n a = some d → x.purpose = .routine ∨ x.purpose = .followUp ∨ x.purpose = .closeWatch ∨
        (∃ k, x.purpose = .command k) →
        (s.trunk n).state = .running →
      ∃ t, exec (.replyReceived n bs) s = .next t ∧
        (t.door d).bolt = o.bolt ∧ (t.door d).leaf = o.leaf ∧ (t.door d).tamper = o.tamper ∧
        (∀ m ∈ (t.trunk n).roster, m.addr = a →
          m.missed = 0 ∧ m.routineDue = some (s.after (s.routinePeriod n a))) ∧
        (∀ e, QueueInv s → x.purpose = .closeWatch → s.entryOf d = some e → e.phase = .waitClose →
          o.bolt ≠ .thrown → o.leaf ≠ .closed → t.entryOf d = some e ∧
          ∀ m ∈ (t.trunk n).roster, m.addr = a → m.closeWatchDue = some (s.after 20)) ∧
        (t.trunk n).transaction = none ∧ (t.trunk n).rate = (s.trunk n).rate ∧
        ∀ k, k ≠ d → t.door k = s.door k ∧ t.entryOf k = s.entryOf k) ∧
    (x.purpose = .rollCall → (s.trunk n).state = .rollCall → (s.trunk n).windowWait = false →
      RosterInv s → QueueInv s →
      ∃ t, exec (.replyReceived n bs) s = .next t ∧ s.rolled t n a ∧
        (s.doorAt n a = some d →
          (t.door d).bolt = o.bolt ∧ (t.door d).leaf = o.leaf ∧ (t.door d).agreement ≠ .unknown ∧
          (s.notices.length < 63 → (t.door d).alarms = (s.door d).alarms →
            t.notices = s.told (t.rollNotices n))) ∧
        (s.doorAt n a = none → t.doors = s.doors ∧ t.queue = s.queue ∧
          (s.notices.length < 62 →
            t.notices = s.told (.node n a .unmappedPresent :: t.rollNotices n))) ∧
        (∃ m ∈ (t.trunk n).roster, m.addr = a ∧ m.kind = o.kind ∧ m.maxRate = o.maxRate ∧
          m.online = true ∧ m.missed = 0) ∧
        ((s.trunk n).polarity = .undetermined →
          (t.trunk n).polarity = if inv then .inverted else .normal))

/-- R82, R83, R87, R90, R114: what the result in the reply to a command does to its attempt: it goes on, its node's
follow-up due in 5 tenths, is confirmed, is put off, is tried again after the retry interval, a refused THROW with
its leaf watched after 20 tenths, or is held out at the attempt limit; a retarget takes the place of every end. A
confirmation gives IN-STEP whatever bolt was reported (log 42). -/
def Obligations.CommandResultsDecideAttempts : Prop :=
  ∀ (n a d : Nat) (s : State) (x : Transaction) (bs : List Byte) (inv : Bool) (o : Status) (e : Entry)
      (at_ : Attempt),
    s.runs n → (s.trunk n).transaction = some x → x.command.addr = some a → x.purpose = .command d →
    x.phase ≠ .trailer → x.spoiled = false →
    acceptStatus (s.trunk n).polarity a bs = some (inv, o) → s.doorAt n a = some d → QueueInv s →
    s.entryOf d = some e → e.phase = .issued at_ →
    let again (reason : HeldReason) (p : EntryPhase) (t : State) : Prop :=
      if s.attemptLimit e ≤ e.attempts + 1 then
        t.entryOf d = none ∧ (t.door d).agreement = .heldOut reason
      else
        t.entryOf d = some { e with
          attempts := e.attempts + 1, phase := p,
          due := s.after (10 * (s.zone (s.door d).zone).retry) }
    ∃ t, exec (.replyReceived n bs) s = .next t ∧
      (o.result = .started → t.entryOf d = some { e with attempts := e.attempts + 1 }) ∧
      (at_.retarget = none → o.result = .already → t.entryOf d = none ∧ (t.door d).agreement = .inStep) ∧
      (at_.retarget = none → o.result = .nodeBusy ∨ o.result = .none_ →
        t.entryOf d = some { e with phase := .pending, due := s.after 10 }) ∧
      (at_.retarget = none → o.result = .refusedOpen → e.target = .drive .locked →
        again .doorOpen .waitClose t) ∧
      (at_.retarget = none →
        o.result = .refusedJam ∨ (o.result = .refusedOpen ∧ e.target ≠ .drive .locked) →
        again .jammed .pending t) ∧
      (at_.retarget = some none → o.result ≠ .started →
        t.entryOf d = none ∧ (t.door d).agreement = .inStep) ∧
      (∀ l, at_.retarget = some (some l) → o.result ≠ .started →
        if o.bolt = l.bolt then t.entryOf d = none ∧ (t.door d).agreement = .inStep
        else t.entryOf d = some ⟨d, .drive l, e.origin, s.count, 0, .pending⟩) ∧
      (∀ m ∈ (t.trunk n).roster, m.addr = a →
        m.followUpDue = (if o.result = .started then some (s.after 5) else none) ∧
        m.closeWatchDue = (if at_.retarget = none ∧ o.result = .refusedOpen ∧ e.target = .drive .locked ∧
          e.attempts + 1 < s.attemptLimit e then some (s.after 20) else none)) ∧
      ∀ k, k ≠ d → t.door k = s.door k ∧ t.entryOf k = s.entryOf k

/-- R82, R87, R91, R103, R111, R114: a missed reply counts toward the offline threshold and puts a command off by 10
tenths; a missed follow-up or close-watch poll leaves the entry where it is and sets the next due. The third takes
the node OFFLINE and makes its door UNKNOWN, with the NODE notice first (log 15); a third that a command missed ends
its attempt, by a retarget it holds too, before the node goes OFFLINE (log 43). A missed ROLL enters no node, and the
roll call goes on, ends or yields (R107, R109, R129), its next frame within the same command (log 13). -/
def Obligations.MissedRepliesAreCounted : Prop :=
  (∀ (n a : Nat) (s : State) (x : Transaction), s.powered = true → n < 8 → s.evaluator = .active →
    (s.trunk n).transaction = some x → x.command.addr = some a → x.phase ≠ .trailer → x.purpose = .rollCall →
    (s.trunk n).state = .rollCall → (s.trunk n).windowWait = false →
    ∃ t, exec (.replyWindowClose n) s = .next t ∧ s.rolled t n a ∧ t.doors = s.doors ∧ t.queue = s.queue ∧
      (t.trunk n).polarity = (s.trunk n).polarity ∧
      ((t.trunk n).roster.map fun m => { m with routineDue := none }) =
        (s.trunk n).roster.map (fun m => { m with routineDue := none }) ∧
      (s.notices.length < 63 → t.notices = s.told (t.rollNotices n))) ∧
  ∀ (n a : Nat) (s : State) (x : Transaction) (m : Node), s.runs n →
    (s.trunk n).transaction = some x → x.command.addr = some a → x.phase ≠ .trailer →
    (s.trunk n).node a = some m → m.online = true →
    (x.purpose = .routine → m.missed < 2 →
      ∃ t, exec (.replyWindowClose n) s = .next t ∧ (t.trunk n).transaction = none ∧
        (t.trunk n).node a = some { m with
          missed := m.missed + 1, routineDue := some (s.after (s.routinePeriod n a)) } ∧
        t.doors = s.doors ∧ t.queue = s.queue) ∧
    (∀ d e, s.doorAt n a = some d → s.entryOf d = some e → m.missed < 2 →
      (x.purpose = .followUp ∧ e.isIssued = true) ∨ (x.purpose = .closeWatch ∧ e.phase = .waitClose) →
      ∃ t, exec (.replyWindowClose n) s = .next t ∧ (t.trunk n).transaction = none ∧
        (t.trunk n).node a = some { m with
          missed := m.missed + 1,
          followUpDue := if x.purpose = .followUp then some (s.after 5) else m.followUpDue,
          closeWatchDue := if x.purpose = .closeWatch then some (s.after 20) else m.closeWatchDue } ∧
        t.doors = s.doors ∧ t.queue = s.queue) ∧
    (x.purpose = .routine ∨ x.purpose = .followUp ∨ x.purpose = .closeWatch → 2 ≤ m.missed →
      ∃ t, exec (.replyWindowClose n) s = .next t ∧
        (t.trunk n).node a = some { m with
          online := false, missed := 3, routineDue := none, followUpDue := none,
          closeWatchDue := none, recoveryDue := some (s.after 600) } ∧
        ∀ d, s.doorAt n a = some d → (t.door d).agreement = .unknown ∧ t.entryOf d = none ∧
          (t.door d).bolt = (s.door d).bolt ∧ (t.door d).target = (s.door d).target ∧
          ((s.trunk n).isHeld = false → s.notices.length < 62 → (s.door d).agreement ≠ .unknown →
            t.notices = s.told ([.node n a .offline, t.statusNotice d] ++
              t.settledNotices s (s.door d).zone)) ∧
          ∀ k, k ≠ d → t.door k = s.door k ∧ t.entryOf k = s.entryOf k) ∧
    (∀ d e at_, x.purpose = .command d → m.missed < 2 → s.doorAt n a = some d →
      s.entryOf d = some e → e.phase = .issued at_ → at_.retarget = none →
      ∃ t, exec (.replyWindowClose n) s = .next t ∧
        t.entryOf d = some { e with phase := .pending, due := s.after 10 } ∧ t.doors = s.doors) ∧
    (∀ d e at_ l, x.purpose = .command d → 2 ≤ m.missed → s.doorAt n a = some d → QueueInv s →
      s.entryOf d = some e → e.phase = .issued at_ → e.origin.isBatch = true → (s.door d).zone < 64 →
      at_.retarget = some (some l) →
      ∃ t, exec (.replyWindowClose n) s = .next t ∧ t.entryOf d = none ∧
        (t.door d).agreement = .unknown ∧ (t.trunk n).isOnline a = false ∧
        (t.zone (s.door d).zone).tallies =
          if (s.door d).bolt = l.bolt then
            { (s.zone (s.door d).zone).tallies with
              confirmed := (s.zone (s.door d).zone).tallies.confirmed + 1 }
          else
            { (s.zone (s.door d).zone).tallies with
              unreachable := (s.zone (s.door d).zone).tallies.unreachable + 1 })

/-- R2, R19, R112: a recovery turn polls an OFFLINE node at the trunk's rate, and at 9600 when that is missed. A reply
brings it back ONLINE with its notice before its door's (log 15), after the second poll with a RATE broadcast at
9600, during which the trunk's rate stays (log 32); a node too slow for the trunk stays OFFLINE, its reply written,
and a turn that fails comes again 600 tenths after its end. The next frame of the turn starts within the same
command (log 13). -/
def Obligations.RecoveryTurnsBringNodesBack : Prop :=
  (∀ (n a : Nat) (s : State) (x : Transaction) (bs : List Byte) (m : Node), s.runs n → QueueInv s →
    (s.trunk n).transaction = some x → x.command.addr = some a → x.phase ≠ .trailer →
    (s.trunk n).isHeld = false → (s.trunk n).node a = some m → m.online = false →
    let rate := (s.trunk n).rate
    let free (t : State) : Prop := (t.trunk n).transaction = none ∧
      (t.trunk n).ownership = .idleOwner ∧ (t.trunk n).rate = rate
    let back (t : State) (o : Status) : Prop :=
      (∃ m', (t.trunk n).node a = some m' ∧ m'.online = true ∧ m'.missed = 0 ∧ m'.kind = o.kind ∧
        m'.maxRate = o.maxRate ∧ m'.recoveryDue = none ∧
        m'.routineDue = some (s.after (s.routinePeriod n a))) ∧
      (s.notices.length < 64 → ∃ more,
        t.notices = s.notices ++ ⟨s.noticeNumber, .node n a .online⟩ :: more) ∧
      ∀ d, s.doorAt n a = some d → (t.door d).bolt = o.bolt ∧ (t.door d).leaf = o.leaf ∧
        (t.door d).agreement ≠ .unknown
    (∀ inv o, x.spoiled = false → acceptStatus (s.trunk n).polarity a bs = some (inv, o) →
      ∃ t, exec (.replyReceived n bs) s = .next t ∧
        (x.purpose = .recoveryFirst → back t o ∧ free t) ∧
        (x.purpose = .recoverySecond → rate.code ≤ o.maxRate.code → back t o ∧
          (t.trunk n).ownership = .driving ∧ (t.trunk n).rate = rate ∧
          (t.trunk n).transaction = some ⟨.rate rate, .recoveryRate, .r9600, .frame, false⟩) ∧
        (x.purpose = .recoverySecond → o.maxRate.code < rate.code → free t ∧
          (∃ m', (t.trunk n).node a = some m' ∧ m'.online = false ∧
            m'.recoveryDue = some (s.after 600)) ∧
          ∀ d, s.doorAt n a = some d → (t.door d).bolt = o.bolt ∧ (t.door d).leaf = o.leaf ∧
            ((s.door d).agreement = .unknown → (t.door d).agreement = .unknown))) ∧
    (x.purpose = .recoveryFirst → rate ≠ .r9600 →
      exec (.replyWindowClose n) s = .next (s.onTrunk n fun r => { r with
        ownership := .driving, transaction := some ⟨.poll a, .recoverySecond, .r9600, .frame, false⟩ })) ∧
    (x.purpose = .recoverySecond ∨ (x.purpose = .recoveryFirst ∧ rate = .r9600) →
      ∃ t, exec (.replyWindowClose n) s = .next t ∧ free t ∧ t.doors = s.doors ∧
        (t.trunk n).node a = some { m with recoveryDue := some (s.after 600) })) ∧
  ∀ (n : Nat) (s : State) (r : Rate) (b : Rate), s.runs n → (s.trunk n).isHeld = false →
    (s.trunk n).transaction = some ⟨.rate r, .recoveryRate, b, .frame, false⟩ →
    ∃ t, exec (.broadcastEnd n) s = .next t ∧ (t.trunk n).transaction = none ∧
      (t.trunk n).ownership = .idleOwner ∧ (t.trunk n).rate = (s.trunk n).rate ∧ t.doors = s.doors

/-- R88, R102, R106, R107, R109, R117, R129: the rate reset broadcasts lead to the first ROLL, the closing broadcast to
RUNNING, each yielding the trunk where HOLD is ASSERTED, and an abort trailer leaves the entry as never issued, or
applies its retarget (R87). The next broadcast, or ROLL 1, starts within the same command (log 13), and roll call
done stands before yielded (log 15). -/
def Obligations.LineEndsMoveTheTrunk : Prop :=
  ∀ (n : Nat) (s : State) (x : Transaction), s.powered = true → n < 8 → s.evaluator = .active →
    (s.trunk n).transaction = some x →
    let held := (s.trunk n).isHeld
    (∀ r k, x.command = .rate r → x.purpose = .rateReset → x.phase = .frame →
      (s.trunk n).state = .rollCall → (s.trunk n).windowWait = false →
      (s.trunk n).rollStep = .rateReset k → k ≤ 3 →
      ∃ t, exec (.broadcastEnd n) s = .next t ∧ (t.trunk n).state = .rollCall ∧
        (t.trunk n).rollStep = (if k < 3 then .rateReset (k + 1) else .roll 1) ∧
        (t.trunk n).ownership = (if held = true then .yielded else .driving) ∧
        (t.trunk n).transaction = (if held = true then none else some (if k = 0 then ⟨.rate .r9600, .rateReset, .r38400, .frame, false⟩
          else if k = 1 then ⟨.rate .r9600, .rateReset, .r19200, .frame, false⟩
          else if k = 2 then ⟨.rate .r9600, .rateReset, .r9600, .frame, false⟩
          else ⟨.roll 1, .rollCall, .r9600, .frame, false⟩)) ∧ t.doors = s.doors ∧
        (s.notices.length < 64 → t.notices = s.told (t.rollNotices n))) ∧
    (∀ r, x.command = .rate r → x.purpose = .rollClose → x.phase = .frame →
      ∃ t, exec (.broadcastEnd n) s = .next t ∧ (t.trunk n).state = .running ∧
        (t.trunk n).startCall = false ∧
        (t.trunk n).ownership = (if held = true then .yielded else .idleOwner) ∧
        (s.trunk n).chooses (t.trunk n).rate ∧
        (∀ m ∈ (t.trunk n).roster, m.routineDue = some (s.after (s.routinePeriod n m.addr))) ∧
        (s.notices.length < 63 → t.notices = s.told (t.rollNotices n)) ∧
        t.doors = s.doors) ∧
    (∀ d e a, held = false → x.phase = .trailer → x.purpose = .command d → s.entryOf d = some e →
      e.phase = .issued a → a.retarget = none → (s.trunk n).state = .running →
      ∃ t, exec (.abortTrailerSent n) s = .next t ∧ t.entryOf d = some { e with phase := .pending } ∧
        (t.trunk n).transaction = none ∧ (t.trunk n).ownership = .idleOwner ∧ t.doors = s.doors) ∧
    (∀ d e a l, held = false → x.phase = .trailer → x.purpose = .command d → s.entryOf d = some e →
      e.phase = .issued a → a.retarget = some (some l) → (s.trunk n).state = .running →
      ∃ t, exec (.abortTrailerSent n) s = .next t ∧ (t.trunk n).transaction = none ∧
        if (s.door d).bolt = l.bolt then t.entryOf d = none ∧ (t.door d).agreement = .inStep
        else t.entryOf d = some ⟨d, .drive l, e.origin, s.count, 0, .pending⟩ ∧ t.doors = s.doors)

/-- R118, R119: a sample is stored, and judged against the threshold with its half volt of hysteresis; a LOW
supply halves the budget. -/
def Obligations.SupplySamplesAreJudged : Prop :=
  ∀ (n v : Nat) (s : State), s.powered = true → n < 8 →
    let r := s.trunk n
    let m := min v 315
    let low := m < 190 + 10 * r.level
    let high := 190 + 10 * r.level + 5 ≤ m
    let stored (s : State) := s.onTrunk n fun r => { r with measured := m }
    (r.state = .disabled ∨ (r.supply = .normal ∧ ¬low) ∨ (r.supply = .low ∧ ¬high) →
      exec (.supplySample n v) s = .next (stored s)) ∧
    (r.state ≠ .disabled → r.supply = .normal → low →
      exec (.supplySample n v) s = .next
        (((stored s).onTrunk n fun r => { r with supply := .low }).submit (.trunk n .supplyLow)) ∧
      (∀ t, exec (.supplySample n v) s = .next t →
        (t.trunk n).effectiveBudget = max 1 (r.budget / 2))) ∧
    (r.state ≠ .disabled → r.supply = .low → high →
      exec (.supplySample n v) s = .next
        (((stored s).onTrunk n fun r => { r with supply := .normal }).submit (.trunk n .supplyNormal)) ∧
      (∀ t, exec (.supplySample n v) s = .next t → (t.trunk n).effectiveBudget = r.budget))

/-- R127 to R131: HOLD yields an IDLE-OWNER trunk at once and a DRIVING one not yet; its negation gives a RUNNING trunk
back, and in a ROLL-CALL trunk the roll call goes on from the step it had reached, its frame within the same command
(log 13), unless a reset's abandoned reply window is still open; REQ follows the waiting work. -/
def Obligations.HoldMovesOwnership : Prop :=
  ∀ (n : Nat) (s : State), s.powered = true → n < 8 →
    ((s.trunk n).shared = .unshared ∨ (s.trunk n).ownership ≠ .idleOwner →
      exec (.holdAsserted n) s = .next (s.onTrunk n fun r => { r with hold := true })) ∧
    ((s.trunk n).shared ≠ .unshared → (s.trunk n).ownership = .idleOwner →
      ∃ t, exec (.holdAsserted n) s = .next t ∧ (t.trunk n).ownership = .yielded ∧
        (t.trunk n).hold = true ∧ t.doors = s.doors ∧ t.queue = s.queue ∧
        (s.notices.length < 64 → t.notices = s.notices ++ [⟨s.noticeNumber, .trunk n .yielded⟩]) ∧
        (t.trunk n).request = (decide ((s.trunk n).shared = .threeLine) && s.hasWork n)) ∧
    ((s.trunk n).ownership = .yielded → (s.trunk n).state = .running →
      ∃ t, exec (.holdNegated n) s = .next t ∧ (t.trunk n).ownership = .idleOwner ∧
        (t.trunk n).request = false ∧ t.doors = s.doors ∧
        (s.notices.length < 64 → t.notices = s.notices ++ [⟨s.noticeNumber, .trunk n .owned⟩])) ∧
    ((s.trunk n).ownership = .yielded → (s.trunk n).state = .rollCall →
      ∃ t, exec (.holdNegated n) s = .next t ∧ (t.trunk n).request = false ∧
        (t.trunk n).state = .rollCall ∧ (t.trunk n).rollStep = (s.trunk n).rollStep ∧
        (t.trunk n).roster = (s.trunk n).roster ∧ (t.trunk n).polarity = (s.trunk n).polarity ∧
        t.doors = s.doors ∧
        (s.notices.length < 64 → t.notices = s.told [.trunk n .owned]) ∧
        ((s.trunk n).windowWait = true → (t.trunk n).ownership = .idleOwner ∧
          (t.trunk n).transaction = (s.trunk n).transaction) ∧
        ((s.trunk n).windowWait = false → (t.trunk n).ownership = .driving ∧
          (∀ k, (s.trunk n).rollStep = .rateReset k → k ≤ 3 → (t.trunk n).transaction =
            some ⟨.rate .r9600, .rateReset, (if k = 0 then .r76800 else if k = 1 then .r38400
              else if k = 2 then .r19200 else .r9600), .frame, false⟩) ∧
          (∀ a, (s.trunk n).rollStep = .roll a →
            (t.trunk n).transaction = some ⟨.roll a, .rollCall, .r9600, .frame, false⟩) ∧
          (∀ r, (s.trunk n).rollStep = .close → (s.trunk n).chooses r →
            (t.trunk n).transaction = some ⟨.rate r, .rollClose, .r9600, .frame, false⟩))) ∧
    exec (.dueArriving n) s = .next (s.onTrunk n fun r => { r with
      request := decide (r.shared = .threeLine) && decide (r.ownership = .yielded) && s.hasWork n })

/-- R2, R133 to R135: a yielded trunk notes which doors the second master moves, awaits a reply to each of its frames
to a node, and takes the replies it overhears as observations, one for each frame (log 26). -/
def Obligations.YieldedTrunksListen : Prop :=
  ∀ (n a d : Nat) (s : State) (bs : List Byte), s.powered = true → n < 8 →
    (s.trunk n).ownership = .yielded → s.doorAt n a = some d →
    (∀ f, readTrunkFrame bs = some f → f.addr = a → a ≤ 63 → 1 ≤ a → 4 ≤ f.kind → f.kind ≤ 6 →
      exec (.secondMasterFrame n bs) s = .next
        ((s.onTrunk n fun r => { r with snoops := r.snoops ++ [⟨a, false⟩] }).onDoor d fun r =>
          { r with lastBy := .secondMaster })) ∧
    (∀ f, readTrunkFrame bs = some f → f.addr = a → a ≤ 63 → 1 ≤ a → 1 ≤ f.kind → f.kind ≤ 3 →
      exec (.secondMasterFrame n bs) s = .next
        (s.onTrunk n fun r => { r with snoops := r.snoops ++ [⟨a, false⟩] })) ∧
    ((∀ w ∈ (s.trunk n).snoops, acceptStatus (s.trunk n).polarity w.addr bs = none) →
      exec (.snoopedReply n bs) s = .next s) ∧
    (∀ inv o, (∃ g, (⟨a, g⟩ : Snoop) ∈ (s.trunk n).snoops) →
      acceptStatus (s.trunk n).polarity a bs = some (inv, o) →
      ∃ t, exec (.snoopedReply n bs) s = .next t ∧ (t.door d).bolt = o.bolt ∧
        (t.door d).leaf = o.leaf ∧ (t.door d).tamper = o.tamper ∧
        (t.trunk n).snoops = (s.trunk n).snoops.eraseP (fun w => decide (w.addr = a)) ∧
        ((s.trunk n).isOnline a = false → (s.door d).agreement = .unknown →
          (t.door d).agreement = .unknown) ∧
        (∀ m, (s.trunk n).node a = some m → m.online = true →
          ∃ m', (t.trunk n).node a = some m' ∧ m'.missed = 0 ∧ m'.routineDue = m.routineDue) ∧
        (∀ k, k ≠ d → t.door k = s.door k ∧ t.entryOf k = s.entryOf k))

/-! ### Refusals -/

/-- R176, R178, R189: while the tables are loaded or saved, the requests that change them are answered BUSY,
and nothing else changes. The model's choice (log 8): an event on a trunk above 7 or a door above 503 is no
event of the part, and faults by name. -/
def Obligations.RefusedCommandsChangeNothing : Prop :=
  (∀ (n v d : Nat) (bs : List Byte) (s : State), 8 ≤ n → 504 ≤ d →
    (∀ i ∈ [Instr.selectNextTransaction n, .replyReceived n bs, .replyWindowClose n, .broadcastEnd n,
        .abortTrailerSent n, .supplySample n v, .holdAsserted n, .holdNegated n,
        .secondMasterFrame n bs, .snoopedReply n bs, .dueArriving n],
      exec i s = .fault .noSuchTrunk) ∧
    exec (.actuationLimit d) s = .fault .noSuchDoor ∧ exec (.waitCloseDue d) s = .fault .noSuchDoor) ∧
  ∀ (i : Instr) (tag code : Nat) (s : State), s.takes →
    ((s.loader ≠ .idle ∧
        ((code = 0x20 ∧ ∃ q, i = .loadDoor tag q) ∨ (code = 0x28 ∧ ∃ q, i = .loadZone tag q) ∨
          (code = 0x30 ∧ ∃ c k a, i = .loadClass tag c k a) ∨
          (code = 0x38 ∧ ∃ q, i = .loadWindow tag q) ∨ (code = 0x39 ∧ ∃ w, i = .deleteWindow tag w) ∨
          (code = 0x3B ∧ ∃ p, i = .selectPlan tag p) ∨ (code = 0x40 ∧ ∃ g, i = .setBatchGap tag g) ∨
          (code = 0x10 ∧ ∃ m x, i = .setTime tag m x) ∨ (code = 0x48 ∧ ∃ q, i = .loadTrunk tag q) ∨
          (code = 0x04 ∧ i = .saveSettings tag) ∨ (code = 0x03 ∧ i = .linkReset tag))) ∨
      (s.loader = .loading ∧
        ((code = 0x21 ∧ ∃ d, i = .readDoor tag d) ∨ (code = 0x22 ∧ ∃ d, i = .listHeldOut tag d) ∨
          (code = 0x23 ∧ ∃ d k, i = .ackAlarm tag d k) ∨ (code = 0x29 ∧ ∃ z, i = .readZone tag z) ∨
          (code = 0x2A ∧ ∃ z, i = .zoneSweepPause tag z ∨ i = .zoneSweepResume tag z ∨
            i = .zoneSweepCancel tag z ∨ i = .zoneSweepResweep tag z) ∨
          (code = 0x31 ∧ ∃ c, i = .readClass tag c) ∨ (code = 0x3A ∧ ∃ w, i = .readWindow tag w) ∨
          (code = 0x49 ∧ ∃ k, i = .readTrunk tag k) ∨ (code = 0x4A ∧ ∃ k a, i = .readRoster tag k a) ∨
          (code = 0x4B ∧ ∃ k, i = .resetTrunk tag k) ∨ (code = 0x50 ∧ i = .clearFire tag)))) →
    exec i s = .next (s.answer (.mgmt tag code .busy []))
end

