-- ==== Sys2Proof/Laws/State.lean ====
section
/-! SUPPORT. What each update of the state leaves: one lemma per field per update. -/

namespace Sys2Proof.Machine

/-! ### setDoor -/

@[simp] theorem setDoor_powered (d : Nat) (r : Door) (s : State) :
    (State.setDoor d r s).powered = s.powered := rfl
@[simp] theorem setDoor_crystal (d : Nat) (r : Door) (s : State) :
    (State.setDoor d r s).crystal = s.crystal := rfl
@[simp] theorem setDoor_minute (d : Nat) (r : Door) (s : State) :
    (State.setDoor d r s).minute = s.minute := rfl
@[simp] theorem setDoor_second (d : Nat) (r : Door) (s : State) :
    (State.setDoor d r s).second = s.second := rfl
@[simp] theorem setDoor_tenths (d : Nat) (r : Door) (s : State) :
    (State.setDoor d r s).tenths = s.tenths := rfl
@[simp] theorem setDoor_backupValid (d : Nat) (r : Door) (s : State) :
    (State.setDoor d r s).backupValid = s.backupValid := rfl
@[simp] theorem setDoor_clock (d : Nat) (r : Door) (s : State) :
    (State.setDoor d r s).clock = s.clock := rfl
@[simp] theorem setDoor_count (d : Nat) (r : Door) (s : State) :
    (State.setDoor d r s).count = s.count := rfl
@[simp] theorem setDoor_evaluated (d : Nat) (r : Door) (s : State) :
    (State.setDoor d r s).evaluated = s.evaluated := rfl
@[simp] theorem setDoor_evaluator (d : Nat) (r : Door) (s : State) :
    (State.setDoor d r s).evaluator = s.evaluator := rfl
@[simp] theorem setDoor_windows (d : Nat) (r : Door) (s : State) :
    (State.setDoor d r s).windows = s.windows := rfl
@[simp] theorem setDoor_plan (d : Nat) (r : Door) (s : State) :
    (State.setDoor d r s).plan = s.plan := rfl
@[simp] theorem setDoor_doors (d : Nat) (r : Door) (s : State) :
    (State.setDoor d r s).doors = s.doors.set d r := rfl
@[simp] theorem setDoor_zones (d : Nat) (r : Door) (s : State) :
    (State.setDoor d r s).zones = s.zones := rfl
@[simp] theorem setDoor_classes (d : Nat) (r : Door) (s : State) :
    (State.setDoor d r s).classes = s.classes := rfl
@[simp] theorem setDoor_queue (d : Nat) (r : Door) (s : State) :
    (State.setDoor d r s).queue = s.queue := rfl
@[simp] theorem setDoor_gap (d : Nat) (r : Door) (s : State) :
    (State.setDoor d r s).gap = s.gap := rfl
@[simp] theorem setDoor_trunks (d : Nat) (r : Door) (s : State) :
    (State.setDoor d r s).trunks = s.trunks := rfl
@[simp] theorem setDoor_fireLine (d : Nat) (r : Door) (s : State) :
    (State.setDoor d r s).fireLine = s.fireLine := rfl
@[simp] theorem setDoor_fireLatch (d : Nat) (r : Door) (s : State) :
    (State.setDoor d r s).fireLatch = s.fireLatch := rfl
@[simp] theorem setDoor_fireCount (d : Nat) (r : Door) (s : State) :
    (State.setDoor d r s).fireCount = s.fireCount := rfl
@[simp] theorem setDoor_unit (d : Nat) (r : Door) (s : State) :
    (State.setDoor d r s).unit = s.unit := rfl
@[simp] theorem setDoor_rateHigh (d : Nat) (r : Door) (s : State) :
    (State.setDoor d r s).rateHigh = s.rateHigh := rfl
@[simp] theorem setDoor_answers (d : Nat) (r : Door) (s : State) :
    (State.setDoor d r s).answers = s.answers := rfl
@[simp] theorem setDoor_saveAnswers (d : Nat) (r : Door) (s : State) :
    (State.setDoor d r s).saveAnswers = s.saveAnswers := rfl
@[simp] theorem setDoor_notices (d : Nat) (r : Door) (s : State) :
    (State.setDoor d r s).notices = s.notices := rfl
@[simp] theorem setDoor_noticeNumber (d : Nat) (r : Door) (s : State) :
    (State.setDoor d r s).noticeNumber = s.noticeNumber := rfl
@[simp] theorem setDoor_resync (d : Nat) (r : Door) (s : State) :
    (State.setDoor d r s).resync = s.resync := rfl
@[simp] theorem setDoor_sending (d : Nat) (r : Door) (s : State) :
    (State.setDoor d r s).sending = s.sending := rfl
@[simp] theorem setDoor_answersInRow (d : Nat) (r : Door) (s : State) :
    (State.setDoor d r s).answersInRow = s.answersInRow := rfl
@[simp] theorem setDoor_receiver (d : Nat) (r : Door) (s : State) :
    (State.setDoor d r s).receiver = s.receiver := rfl
@[simp] theorem setDoor_loader (d : Nat) (r : Door) (s : State) :
    (State.setDoor d r s).loader = s.loader := rfl
@[simp] theorem setDoor_memory (d : Nat) (r : Door) (s : State) :
    (State.setDoor d r s).memory = s.memory := rfl
@[simp] theorem setDoor_pending (d : Nat) (r : Door) (s : State) :
    (State.setDoor d r s).pending = s.pending := rfl

/-! ### setZone -/

@[simp] theorem setZone_powered (z : Nat) (r : Zone) (s : State) :
    (State.setZone z r s).powered = s.powered := rfl
@[simp] theorem setZone_crystal (z : Nat) (r : Zone) (s : State) :
    (State.setZone z r s).crystal = s.crystal := rfl
@[simp] theorem setZone_minute (z : Nat) (r : Zone) (s : State) :
    (State.setZone z r s).minute = s.minute := rfl
@[simp] theorem setZone_second (z : Nat) (r : Zone) (s : State) :
    (State.setZone z r s).second = s.second := rfl
@[simp] theorem setZone_tenths (z : Nat) (r : Zone) (s : State) :
    (State.setZone z r s).tenths = s.tenths := rfl
@[simp] theorem setZone_backupValid (z : Nat) (r : Zone) (s : State) :
    (State.setZone z r s).backupValid = s.backupValid := rfl
@[simp] theorem setZone_clock (z : Nat) (r : Zone) (s : State) :
    (State.setZone z r s).clock = s.clock := rfl
@[simp] theorem setZone_count (z : Nat) (r : Zone) (s : State) :
    (State.setZone z r s).count = s.count := rfl
@[simp] theorem setZone_evaluated (z : Nat) (r : Zone) (s : State) :
    (State.setZone z r s).evaluated = s.evaluated := rfl
@[simp] theorem setZone_evaluator (z : Nat) (r : Zone) (s : State) :
    (State.setZone z r s).evaluator = s.evaluator := rfl
@[simp] theorem setZone_windows (z : Nat) (r : Zone) (s : State) :
    (State.setZone z r s).windows = s.windows := rfl
@[simp] theorem setZone_plan (z : Nat) (r : Zone) (s : State) :
    (State.setZone z r s).plan = s.plan := rfl
@[simp] theorem setZone_doors (z : Nat) (r : Zone) (s : State) :
    (State.setZone z r s).doors = s.doors := rfl
@[simp] theorem setZone_zones (z : Nat) (r : Zone) (s : State) :
    (State.setZone z r s).zones = s.zones.set z r := rfl
@[simp] theorem setZone_classes (z : Nat) (r : Zone) (s : State) :
    (State.setZone z r s).classes = s.classes := rfl
@[simp] theorem setZone_queue (z : Nat) (r : Zone) (s : State) :
    (State.setZone z r s).queue = s.queue := rfl
@[simp] theorem setZone_gap (z : Nat) (r : Zone) (s : State) :
    (State.setZone z r s).gap = s.gap := rfl
@[simp] theorem setZone_trunks (z : Nat) (r : Zone) (s : State) :
    (State.setZone z r s).trunks = s.trunks := rfl
@[simp] theorem setZone_fireLine (z : Nat) (r : Zone) (s : State) :
    (State.setZone z r s).fireLine = s.fireLine := rfl
@[simp] theorem setZone_fireLatch (z : Nat) (r : Zone) (s : State) :
    (State.setZone z r s).fireLatch = s.fireLatch := rfl
@[simp] theorem setZone_fireCount (z : Nat) (r : Zone) (s : State) :
    (State.setZone z r s).fireCount = s.fireCount := rfl
@[simp] theorem setZone_unit (z : Nat) (r : Zone) (s : State) :
    (State.setZone z r s).unit = s.unit := rfl
@[simp] theorem setZone_rateHigh (z : Nat) (r : Zone) (s : State) :
    (State.setZone z r s).rateHigh = s.rateHigh := rfl
@[simp] theorem setZone_answers (z : Nat) (r : Zone) (s : State) :
    (State.setZone z r s).answers = s.answers := rfl
@[simp] theorem setZone_saveAnswers (z : Nat) (r : Zone) (s : State) :
    (State.setZone z r s).saveAnswers = s.saveAnswers := rfl
@[simp] theorem setZone_notices (z : Nat) (r : Zone) (s : State) :
    (State.setZone z r s).notices = s.notices := rfl
@[simp] theorem setZone_noticeNumber (z : Nat) (r : Zone) (s : State) :
    (State.setZone z r s).noticeNumber = s.noticeNumber := rfl
@[simp] theorem setZone_resync (z : Nat) (r : Zone) (s : State) :
    (State.setZone z r s).resync = s.resync := rfl
@[simp] theorem setZone_sending (z : Nat) (r : Zone) (s : State) :
    (State.setZone z r s).sending = s.sending := rfl
@[simp] theorem setZone_answersInRow (z : Nat) (r : Zone) (s : State) :
    (State.setZone z r s).answersInRow = s.answersInRow := rfl
@[simp] theorem setZone_receiver (z : Nat) (r : Zone) (s : State) :
    (State.setZone z r s).receiver = s.receiver := rfl
@[simp] theorem setZone_loader (z : Nat) (r : Zone) (s : State) :
    (State.setZone z r s).loader = s.loader := rfl
@[simp] theorem setZone_memory (z : Nat) (r : Zone) (s : State) :
    (State.setZone z r s).memory = s.memory := rfl
@[simp] theorem setZone_pending (z : Nat) (r : Zone) (s : State) :
    (State.setZone z r s).pending = s.pending := rfl

/-! ### setTrunk -/

@[simp] theorem setTrunk_powered (t : Nat) (r : Trunk) (s : State) :
    (State.setTrunk t r s).powered = s.powered := rfl
@[simp] theorem setTrunk_crystal (t : Nat) (r : Trunk) (s : State) :
    (State.setTrunk t r s).crystal = s.crystal := rfl
@[simp] theorem setTrunk_minute (t : Nat) (r : Trunk) (s : State) :
    (State.setTrunk t r s).minute = s.minute := rfl
@[simp] theorem setTrunk_second (t : Nat) (r : Trunk) (s : State) :
    (State.setTrunk t r s).second = s.second := rfl
@[simp] theorem setTrunk_tenths (t : Nat) (r : Trunk) (s : State) :
    (State.setTrunk t r s).tenths = s.tenths := rfl
@[simp] theorem setTrunk_backupValid (t : Nat) (r : Trunk) (s : State) :
    (State.setTrunk t r s).backupValid = s.backupValid := rfl
@[simp] theorem setTrunk_clock (t : Nat) (r : Trunk) (s : State) :
    (State.setTrunk t r s).clock = s.clock := rfl
@[simp] theorem setTrunk_count (t : Nat) (r : Trunk) (s : State) :
    (State.setTrunk t r s).count = s.count := rfl
@[simp] theorem setTrunk_evaluated (t : Nat) (r : Trunk) (s : State) :
    (State.setTrunk t r s).evaluated = s.evaluated := rfl
@[simp] theorem setTrunk_evaluator (t : Nat) (r : Trunk) (s : State) :
    (State.setTrunk t r s).evaluator = s.evaluator := rfl
@[simp] theorem setTrunk_windows (t : Nat) (r : Trunk) (s : State) :
    (State.setTrunk t r s).windows = s.windows := rfl
@[simp] theorem setTrunk_plan (t : Nat) (r : Trunk) (s : State) :
    (State.setTrunk t r s).plan = s.plan := rfl
@[simp] theorem setTrunk_doors (t : Nat) (r : Trunk) (s : State) :
    (State.setTrunk t r s).doors = s.doors := rfl
@[simp] theorem setTrunk_zones (t : Nat) (r : Trunk) (s : State) :
    (State.setTrunk t r s).zones = s.zones := rfl
@[simp] theorem setTrunk_classes (t : Nat) (r : Trunk) (s : State) :
    (State.setTrunk t r s).classes = s.classes := rfl
@[simp] theorem setTrunk_queue (t : Nat) (r : Trunk) (s : State) :
    (State.setTrunk t r s).queue = s.queue := rfl
@[simp] theorem setTrunk_gap (t : Nat) (r : Trunk) (s : State) :
    (State.setTrunk t r s).gap = s.gap := rfl
@[simp] theorem setTrunk_trunks (t : Nat) (r : Trunk) (s : State) :
    (State.setTrunk t r s).trunks = s.trunks.set t r := rfl
@[simp] theorem setTrunk_fireLine (t : Nat) (r : Trunk) (s : State) :
    (State.setTrunk t r s).fireLine = s.fireLine := rfl
@[simp] theorem setTrunk_fireLatch (t : Nat) (r : Trunk) (s : State) :
    (State.setTrunk t r s).fireLatch = s.fireLatch := rfl
@[simp] theorem setTrunk_fireCount (t : Nat) (r : Trunk) (s : State) :
    (State.setTrunk t r s).fireCount = s.fireCount := rfl
@[simp] theorem setTrunk_unit (t : Nat) (r : Trunk) (s : State) :
    (State.setTrunk t r s).unit = s.unit := rfl
@[simp] theorem setTrunk_rateHigh (t : Nat) (r : Trunk) (s : State) :
    (State.setTrunk t r s).rateHigh = s.rateHigh := rfl
@[simp] theorem setTrunk_answers (t : Nat) (r : Trunk) (s : State) :
    (State.setTrunk t r s).answers = s.answers := rfl
@[simp] theorem setTrunk_saveAnswers (t : Nat) (r : Trunk) (s : State) :
    (State.setTrunk t r s).saveAnswers = s.saveAnswers := rfl
@[simp] theorem setTrunk_notices (t : Nat) (r : Trunk) (s : State) :
    (State.setTrunk t r s).notices = s.notices := rfl
@[simp] theorem setTrunk_noticeNumber (t : Nat) (r : Trunk) (s : State) :
    (State.setTrunk t r s).noticeNumber = s.noticeNumber := rfl
@[simp] theorem setTrunk_resync (t : Nat) (r : Trunk) (s : State) :
    (State.setTrunk t r s).resync = s.resync := rfl
@[simp] theorem setTrunk_sending (t : Nat) (r : Trunk) (s : State) :
    (State.setTrunk t r s).sending = s.sending := rfl
@[simp] theorem setTrunk_answersInRow (t : Nat) (r : Trunk) (s : State) :
    (State.setTrunk t r s).answersInRow = s.answersInRow := rfl
@[simp] theorem setTrunk_receiver (t : Nat) (r : Trunk) (s : State) :
    (State.setTrunk t r s).receiver = s.receiver := rfl
@[simp] theorem setTrunk_loader (t : Nat) (r : Trunk) (s : State) :
    (State.setTrunk t r s).loader = s.loader := rfl
@[simp] theorem setTrunk_memory (t : Nat) (r : Trunk) (s : State) :
    (State.setTrunk t r s).memory = s.memory := rfl
@[simp] theorem setTrunk_pending (t : Nat) (r : Trunk) (s : State) :
    (State.setTrunk t r s).pending = s.pending := rfl

/-! ### onDoor -/

@[simp] theorem onDoor_powered (d : Nat) (f : Door → Door) (s : State) :
    (State.onDoor d f s).powered = s.powered := rfl
@[simp] theorem onDoor_crystal (d : Nat) (f : Door → Door) (s : State) :
    (State.onDoor d f s).crystal = s.crystal := rfl
@[simp] theorem onDoor_minute (d : Nat) (f : Door → Door) (s : State) :
    (State.onDoor d f s).minute = s.minute := rfl
@[simp] theorem onDoor_second (d : Nat) (f : Door → Door) (s : State) :
    (State.onDoor d f s).second = s.second := rfl
@[simp] theorem onDoor_tenths (d : Nat) (f : Door → Door) (s : State) :
    (State.onDoor d f s).tenths = s.tenths := rfl
@[simp] theorem onDoor_backupValid (d : Nat) (f : Door → Door) (s : State) :
    (State.onDoor d f s).backupValid = s.backupValid := rfl
@[simp] theorem onDoor_clock (d : Nat) (f : Door → Door) (s : State) :
    (State.onDoor d f s).clock = s.clock := rfl
@[simp] theorem onDoor_count (d : Nat) (f : Door → Door) (s : State) :
    (State.onDoor d f s).count = s.count := rfl
@[simp] theorem onDoor_evaluated (d : Nat) (f : Door → Door) (s : State) :
    (State.onDoor d f s).evaluated = s.evaluated := rfl
@[simp] theorem onDoor_evaluator (d : Nat) (f : Door → Door) (s : State) :
    (State.onDoor d f s).evaluator = s.evaluator := rfl
@[simp] theorem onDoor_windows (d : Nat) (f : Door → Door) (s : State) :
    (State.onDoor d f s).windows = s.windows := rfl
@[simp] theorem onDoor_plan (d : Nat) (f : Door → Door) (s : State) :
    (State.onDoor d f s).plan = s.plan := rfl
@[simp] theorem onDoor_doors (d : Nat) (f : Door → Door) (s : State) :
    (State.onDoor d f s).doors = s.doors.set d (f (s.door d)) := rfl
@[simp] theorem onDoor_zones (d : Nat) (f : Door → Door) (s : State) :
    (State.onDoor d f s).zones = s.zones := rfl
@[simp] theorem onDoor_classes (d : Nat) (f : Door → Door) (s : State) :
    (State.onDoor d f s).classes = s.classes := rfl
@[simp] theorem onDoor_queue (d : Nat) (f : Door → Door) (s : State) :
    (State.onDoor d f s).queue = s.queue := rfl
@[simp] theorem onDoor_gap (d : Nat) (f : Door → Door) (s : State) :
    (State.onDoor d f s).gap = s.gap := rfl
@[simp] theorem onDoor_trunks (d : Nat) (f : Door → Door) (s : State) :
    (State.onDoor d f s).trunks = s.trunks := rfl
@[simp] theorem onDoor_fireLine (d : Nat) (f : Door → Door) (s : State) :
    (State.onDoor d f s).fireLine = s.fireLine := rfl
@[simp] theorem onDoor_fireLatch (d : Nat) (f : Door → Door) (s : State) :
    (State.onDoor d f s).fireLatch = s.fireLatch := rfl
@[simp] theorem onDoor_fireCount (d : Nat) (f : Door → Door) (s : State) :
    (State.onDoor d f s).fireCount = s.fireCount := rfl
@[simp] theorem onDoor_unit (d : Nat) (f : Door → Door) (s : State) :
    (State.onDoor d f s).unit = s.unit := rfl
@[simp] theorem onDoor_rateHigh (d : Nat) (f : Door → Door) (s : State) :
    (State.onDoor d f s).rateHigh = s.rateHigh := rfl
@[simp] theorem onDoor_answers (d : Nat) (f : Door → Door) (s : State) :
    (State.onDoor d f s).answers = s.answers := rfl
@[simp] theorem onDoor_saveAnswers (d : Nat) (f : Door → Door) (s : State) :
    (State.onDoor d f s).saveAnswers = s.saveAnswers := rfl
@[simp] theorem onDoor_notices (d : Nat) (f : Door → Door) (s : State) :
    (State.onDoor d f s).notices = s.notices := rfl
@[simp] theorem onDoor_noticeNumber (d : Nat) (f : Door → Door) (s : State) :
    (State.onDoor d f s).noticeNumber = s.noticeNumber := rfl
@[simp] theorem onDoor_resync (d : Nat) (f : Door → Door) (s : State) :
    (State.onDoor d f s).resync = s.resync := rfl
@[simp] theorem onDoor_sending (d : Nat) (f : Door → Door) (s : State) :
    (State.onDoor d f s).sending = s.sending := rfl
@[simp] theorem onDoor_answersInRow (d : Nat) (f : Door → Door) (s : State) :
    (State.onDoor d f s).answersInRow = s.answersInRow := rfl
@[simp] theorem onDoor_receiver (d : Nat) (f : Door → Door) (s : State) :
    (State.onDoor d f s).receiver = s.receiver := rfl
@[simp] theorem onDoor_loader (d : Nat) (f : Door → Door) (s : State) :
    (State.onDoor d f s).loader = s.loader := rfl
@[simp] theorem onDoor_memory (d : Nat) (f : Door → Door) (s : State) :
    (State.onDoor d f s).memory = s.memory := rfl
@[simp] theorem onDoor_pending (d : Nat) (f : Door → Door) (s : State) :
    (State.onDoor d f s).pending = s.pending := rfl

/-! ### onZone -/

@[simp] theorem onZone_powered (z : Nat) (f : Zone → Zone) (s : State) :
    (State.onZone z f s).powered = s.powered := rfl
@[simp] theorem onZone_crystal (z : Nat) (f : Zone → Zone) (s : State) :
    (State.onZone z f s).crystal = s.crystal := rfl
@[simp] theorem onZone_minute (z : Nat) (f : Zone → Zone) (s : State) :
    (State.onZone z f s).minute = s.minute := rfl
@[simp] theorem onZone_second (z : Nat) (f : Zone → Zone) (s : State) :
    (State.onZone z f s).second = s.second := rfl
@[simp] theorem onZone_tenths (z : Nat) (f : Zone → Zone) (s : State) :
    (State.onZone z f s).tenths = s.tenths := rfl
@[simp] theorem onZone_backupValid (z : Nat) (f : Zone → Zone) (s : State) :
    (State.onZone z f s).backupValid = s.backupValid := rfl
@[simp] theorem onZone_clock (z : Nat) (f : Zone → Zone) (s : State) :
    (State.onZone z f s).clock = s.clock := rfl
@[simp] theorem onZone_count (z : Nat) (f : Zone → Zone) (s : State) :
    (State.onZone z f s).count = s.count := rfl
@[simp] theorem onZone_evaluated (z : Nat) (f : Zone → Zone) (s : State) :
    (State.onZone z f s).evaluated = s.evaluated := rfl
@[simp] theorem onZone_evaluator (z : Nat) (f : Zone → Zone) (s : State) :
    (State.onZone z f s).evaluator = s.evaluator := rfl
@[simp] theorem onZone_windows (z : Nat) (f : Zone → Zone) (s : State) :
    (State.onZone z f s).windows = s.windows := rfl
@[simp] theorem onZone_plan (z : Nat) (f : Zone → Zone) (s : State) :
    (State.onZone z f s).plan = s.plan := rfl
@[simp] theorem onZone_doors (z : Nat) (f : Zone → Zone) (s : State) :
    (State.onZone z f s).doors = s.doors := rfl
@[simp] theorem onZone_zones (z : Nat) (f : Zone → Zone) (s : State) :
    (State.onZone z f s).zones = s.zones.set z (f (s.zone z)) := rfl
@[simp] theorem onZone_classes (z : Nat) (f : Zone → Zone) (s : State) :
    (State.onZone z f s).classes = s.classes := rfl
@[simp] theorem onZone_queue (z : Nat) (f : Zone → Zone) (s : State) :
    (State.onZone z f s).queue = s.queue := rfl
@[simp] theorem onZone_gap (z : Nat) (f : Zone → Zone) (s : State) :
    (State.onZone z f s).gap = s.gap := rfl
@[simp] theorem onZone_trunks (z : Nat) (f : Zone → Zone) (s : State) :
    (State.onZone z f s).trunks = s.trunks := rfl
@[simp] theorem onZone_fireLine (z : Nat) (f : Zone → Zone) (s : State) :
    (State.onZone z f s).fireLine = s.fireLine := rfl
@[simp] theorem onZone_fireLatch (z : Nat) (f : Zone → Zone) (s : State) :
    (State.onZone z f s).fireLatch = s.fireLatch := rfl
@[simp] theorem onZone_fireCount (z : Nat) (f : Zone → Zone) (s : State) :
    (State.onZone z f s).fireCount = s.fireCount := rfl
@[simp] theorem onZone_unit (z : Nat) (f : Zone → Zone) (s : State) :
    (State.onZone z f s).unit = s.unit := rfl
@[simp] theorem onZone_rateHigh (z : Nat) (f : Zone → Zone) (s : State) :
    (State.onZone z f s).rateHigh = s.rateHigh := rfl
@[simp] theorem onZone_answers (z : Nat) (f : Zone → Zone) (s : State) :
    (State.onZone z f s).answers = s.answers := rfl
@[simp] theorem onZone_saveAnswers (z : Nat) (f : Zone → Zone) (s : State) :
    (State.onZone z f s).saveAnswers = s.saveAnswers := rfl
@[simp] theorem onZone_notices (z : Nat) (f : Zone → Zone) (s : State) :
    (State.onZone z f s).notices = s.notices := rfl
@[simp] theorem onZone_noticeNumber (z : Nat) (f : Zone → Zone) (s : State) :
    (State.onZone z f s).noticeNumber = s.noticeNumber := rfl
@[simp] theorem onZone_resync (z : Nat) (f : Zone → Zone) (s : State) :
    (State.onZone z f s).resync = s.resync := rfl
@[simp] theorem onZone_sending (z : Nat) (f : Zone → Zone) (s : State) :
    (State.onZone z f s).sending = s.sending := rfl
@[simp] theorem onZone_answersInRow (z : Nat) (f : Zone → Zone) (s : State) :
    (State.onZone z f s).answersInRow = s.answersInRow := rfl
@[simp] theorem onZone_receiver (z : Nat) (f : Zone → Zone) (s : State) :
    (State.onZone z f s).receiver = s.receiver := rfl
@[simp] theorem onZone_loader (z : Nat) (f : Zone → Zone) (s : State) :
    (State.onZone z f s).loader = s.loader := rfl
@[simp] theorem onZone_memory (z : Nat) (f : Zone → Zone) (s : State) :
    (State.onZone z f s).memory = s.memory := rfl
@[simp] theorem onZone_pending (z : Nat) (f : Zone → Zone) (s : State) :
    (State.onZone z f s).pending = s.pending := rfl

/-! ### onTrunk -/

@[simp] theorem onTrunk_powered (t : Nat) (f : Trunk → Trunk) (s : State) :
    (State.onTrunk t f s).powered = s.powered := rfl
@[simp] theorem onTrunk_crystal (t : Nat) (f : Trunk → Trunk) (s : State) :
    (State.onTrunk t f s).crystal = s.crystal := rfl
@[simp] theorem onTrunk_minute (t : Nat) (f : Trunk → Trunk) (s : State) :
    (State.onTrunk t f s).minute = s.minute := rfl
@[simp] theorem onTrunk_second (t : Nat) (f : Trunk → Trunk) (s : State) :
    (State.onTrunk t f s).second = s.second := rfl
@[simp] theorem onTrunk_tenths (t : Nat) (f : Trunk → Trunk) (s : State) :
    (State.onTrunk t f s).tenths = s.tenths := rfl
@[simp] theorem onTrunk_backupValid (t : Nat) (f : Trunk → Trunk) (s : State) :
    (State.onTrunk t f s).backupValid = s.backupValid := rfl
@[simp] theorem onTrunk_clock (t : Nat) (f : Trunk → Trunk) (s : State) :
    (State.onTrunk t f s).clock = s.clock := rfl
@[simp] theorem onTrunk_count (t : Nat) (f : Trunk → Trunk) (s : State) :
    (State.onTrunk t f s).count = s.count := rfl
@[simp] theorem onTrunk_evaluated (t : Nat) (f : Trunk → Trunk) (s : State) :
    (State.onTrunk t f s).evaluated = s.evaluated := rfl
@[simp] theorem onTrunk_evaluator (t : Nat) (f : Trunk → Trunk) (s : State) :
    (State.onTrunk t f s).evaluator = s.evaluator := rfl
@[simp] theorem onTrunk_windows (t : Nat) (f : Trunk → Trunk) (s : State) :
    (State.onTrunk t f s).windows = s.windows := rfl
@[simp] theorem onTrunk_plan (t : Nat) (f : Trunk → Trunk) (s : State) :
    (State.onTrunk t f s).plan = s.plan := rfl
@[simp] theorem onTrunk_doors (t : Nat) (f : Trunk → Trunk) (s : State) :
    (State.onTrunk t f s).doors = s.doors := rfl
@[simp] theorem onTrunk_zones (t : Nat) (f : Trunk → Trunk) (s : State) :
    (State.onTrunk t f s).zones = s.zones := rfl
@[simp] theorem onTrunk_classes (t : Nat) (f : Trunk → Trunk) (s : State) :
    (State.onTrunk t f s).classes = s.classes := rfl
@[simp] theorem onTrunk_queue (t : Nat) (f : Trunk → Trunk) (s : State) :
    (State.onTrunk t f s).queue = s.queue := rfl
@[simp] theorem onTrunk_gap (t : Nat) (f : Trunk → Trunk) (s : State) :
    (State.onTrunk t f s).gap = s.gap := rfl
@[simp] theorem onTrunk_trunks (t : Nat) (f : Trunk → Trunk) (s : State) :
    (State.onTrunk t f s).trunks = s.trunks.set t (f (s.trunk t)) := rfl
@[simp] theorem onTrunk_fireLine (t : Nat) (f : Trunk → Trunk) (s : State) :
    (State.onTrunk t f s).fireLine = s.fireLine := rfl
@[simp] theorem onTrunk_fireLatch (t : Nat) (f : Trunk → Trunk) (s : State) :
    (State.onTrunk t f s).fireLatch = s.fireLatch := rfl
@[simp] theorem onTrunk_fireCount (t : Nat) (f : Trunk → Trunk) (s : State) :
    (State.onTrunk t f s).fireCount = s.fireCount := rfl
@[simp] theorem onTrunk_unit (t : Nat) (f : Trunk → Trunk) (s : State) :
    (State.onTrunk t f s).unit = s.unit := rfl
@[simp] theorem onTrunk_rateHigh (t : Nat) (f : Trunk → Trunk) (s : State) :
    (State.onTrunk t f s).rateHigh = s.rateHigh := rfl
@[simp] theorem onTrunk_answers (t : Nat) (f : Trunk → Trunk) (s : State) :
    (State.onTrunk t f s).answers = s.answers := rfl
@[simp] theorem onTrunk_saveAnswers (t : Nat) (f : Trunk → Trunk) (s : State) :
    (State.onTrunk t f s).saveAnswers = s.saveAnswers := rfl
@[simp] theorem onTrunk_notices (t : Nat) (f : Trunk → Trunk) (s : State) :
    (State.onTrunk t f s).notices = s.notices := rfl
@[simp] theorem onTrunk_noticeNumber (t : Nat) (f : Trunk → Trunk) (s : State) :
    (State.onTrunk t f s).noticeNumber = s.noticeNumber := rfl
@[simp] theorem onTrunk_resync (t : Nat) (f : Trunk → Trunk) (s : State) :
    (State.onTrunk t f s).resync = s.resync := rfl
@[simp] theorem onTrunk_sending (t : Nat) (f : Trunk → Trunk) (s : State) :
    (State.onTrunk t f s).sending = s.sending := rfl
@[simp] theorem onTrunk_answersInRow (t : Nat) (f : Trunk → Trunk) (s : State) :
    (State.onTrunk t f s).answersInRow = s.answersInRow := rfl
@[simp] theorem onTrunk_receiver (t : Nat) (f : Trunk → Trunk) (s : State) :
    (State.onTrunk t f s).receiver = s.receiver := rfl
@[simp] theorem onTrunk_loader (t : Nat) (f : Trunk → Trunk) (s : State) :
    (State.onTrunk t f s).loader = s.loader := rfl
@[simp] theorem onTrunk_memory (t : Nat) (f : Trunk → Trunk) (s : State) :
    (State.onTrunk t f s).memory = s.memory := rfl
@[simp] theorem onTrunk_pending (t : Nat) (f : Trunk → Trunk) (s : State) :
    (State.onTrunk t f s).pending = s.pending := rfl

/-! ### answer -/

@[simp] theorem answer_powered (a : Answer) (s : State) :
    (State.answer a s).powered = s.powered := rfl
@[simp] theorem answer_crystal (a : Answer) (s : State) :
    (State.answer a s).crystal = s.crystal := rfl
@[simp] theorem answer_minute (a : Answer) (s : State) :
    (State.answer a s).minute = s.minute := rfl
@[simp] theorem answer_second (a : Answer) (s : State) :
    (State.answer a s).second = s.second := rfl
@[simp] theorem answer_tenths (a : Answer) (s : State) :
    (State.answer a s).tenths = s.tenths := rfl
@[simp] theorem answer_backupValid (a : Answer) (s : State) :
    (State.answer a s).backupValid = s.backupValid := rfl
@[simp] theorem answer_clock (a : Answer) (s : State) :
    (State.answer a s).clock = s.clock := rfl
@[simp] theorem answer_count (a : Answer) (s : State) :
    (State.answer a s).count = s.count := rfl
@[simp] theorem answer_evaluated (a : Answer) (s : State) :
    (State.answer a s).evaluated = s.evaluated := rfl
@[simp] theorem answer_evaluator (a : Answer) (s : State) :
    (State.answer a s).evaluator = s.evaluator := rfl
@[simp] theorem answer_windows (a : Answer) (s : State) :
    (State.answer a s).windows = s.windows := rfl
@[simp] theorem answer_plan (a : Answer) (s : State) :
    (State.answer a s).plan = s.plan := rfl
@[simp] theorem answer_doors (a : Answer) (s : State) :
    (State.answer a s).doors = s.doors := rfl
@[simp] theorem answer_zones (a : Answer) (s : State) :
    (State.answer a s).zones = s.zones := rfl
@[simp] theorem answer_classes (a : Answer) (s : State) :
    (State.answer a s).classes = s.classes := rfl
@[simp] theorem answer_queue (a : Answer) (s : State) :
    (State.answer a s).queue = s.queue := rfl
@[simp] theorem answer_gap (a : Answer) (s : State) :
    (State.answer a s).gap = s.gap := rfl
@[simp] theorem answer_trunks (a : Answer) (s : State) :
    (State.answer a s).trunks = s.trunks := rfl
@[simp] theorem answer_fireLine (a : Answer) (s : State) :
    (State.answer a s).fireLine = s.fireLine := rfl
@[simp] theorem answer_fireLatch (a : Answer) (s : State) :
    (State.answer a s).fireLatch = s.fireLatch := rfl
@[simp] theorem answer_fireCount (a : Answer) (s : State) :
    (State.answer a s).fireCount = s.fireCount := rfl
@[simp] theorem answer_unit (a : Answer) (s : State) :
    (State.answer a s).unit = s.unit := rfl
@[simp] theorem answer_rateHigh (a : Answer) (s : State) :
    (State.answer a s).rateHigh = s.rateHigh := rfl
@[simp] theorem answer_answers (a : Answer) (s : State) :
    (State.answer a s).answers = s.answers ++ [a] := rfl
@[simp] theorem answer_saveAnswers (a : Answer) (s : State) :
    (State.answer a s).saveAnswers = s.saveAnswers := rfl
@[simp] theorem answer_notices (a : Answer) (s : State) :
    (State.answer a s).notices = s.notices := rfl
@[simp] theorem answer_noticeNumber (a : Answer) (s : State) :
    (State.answer a s).noticeNumber = s.noticeNumber := rfl
@[simp] theorem answer_resync (a : Answer) (s : State) :
    (State.answer a s).resync = s.resync := rfl
@[simp] theorem answer_sending (a : Answer) (s : State) :
    (State.answer a s).sending = s.sending := rfl
@[simp] theorem answer_answersInRow (a : Answer) (s : State) :
    (State.answer a s).answersInRow = s.answersInRow := rfl
@[simp] theorem answer_receiver (a : Answer) (s : State) :
    (State.answer a s).receiver = s.receiver := rfl
@[simp] theorem answer_loader (a : Answer) (s : State) :
    (State.answer a s).loader = s.loader := rfl
@[simp] theorem answer_memory (a : Answer) (s : State) :
    (State.answer a s).memory = s.memory := rfl
@[simp] theorem answer_pending (a : Answer) (s : State) :
    (State.answer a s).pending = s.pending := rfl

/-! ### submit -/

@[simp] theorem submit_powered (n : Notice) (s : State) : (s.submit n).powered = s.powered := by
  unfold State.submit; split <;> rfl
@[simp] theorem submit_crystal (n : Notice) (s : State) : (s.submit n).crystal = s.crystal := by
  unfold State.submit; split <;> rfl
@[simp] theorem submit_minute (n : Notice) (s : State) : (s.submit n).minute = s.minute := by
  unfold State.submit; split <;> rfl
@[simp] theorem submit_second (n : Notice) (s : State) : (s.submit n).second = s.second := by
  unfold State.submit; split <;> rfl
@[simp] theorem submit_tenths (n : Notice) (s : State) : (s.submit n).tenths = s.tenths := by
  unfold State.submit; split <;> rfl
@[simp] theorem submit_backupValid (n : Notice) (s : State) : (s.submit n).backupValid = s.backupValid := by
  unfold State.submit; split <;> rfl
@[simp] theorem submit_clock (n : Notice) (s : State) : (s.submit n).clock = s.clock := by
  unfold State.submit; split <;> rfl
@[simp] theorem submit_count (n : Notice) (s : State) : (s.submit n).count = s.count := by
  unfold State.submit; split <;> rfl
@[simp] theorem submit_evaluated (n : Notice) (s : State) : (s.submit n).evaluated = s.evaluated := by
  unfold State.submit; split <;> rfl
@[simp] theorem submit_evaluator (n : Notice) (s : State) : (s.submit n).evaluator = s.evaluator := by
  unfold State.submit; split <;> rfl
@[simp] theorem submit_windows (n : Notice) (s : State) : (s.submit n).windows = s.windows := by
  unfold State.submit; split <;> rfl
@[simp] theorem submit_plan (n : Notice) (s : State) : (s.submit n).plan = s.plan := by
  unfold State.submit; split <;> rfl
@[simp] theorem submit_doors (n : Notice) (s : State) : (s.submit n).doors = s.doors := by
  unfold State.submit; split <;> rfl
@[simp] theorem submit_zones (n : Notice) (s : State) : (s.submit n).zones = s.zones := by
  unfold State.submit; split <;> rfl
@[simp] theorem submit_classes (n : Notice) (s : State) : (s.submit n).classes = s.classes := by
  unfold State.submit; split <;> rfl
@[simp] theorem submit_queue (n : Notice) (s : State) : (s.submit n).queue = s.queue := by
  unfold State.submit; split <;> rfl
@[simp] theorem submit_gap (n : Notice) (s : State) : (s.submit n).gap = s.gap := by
  unfold State.submit; split <;> rfl
@[simp] theorem submit_trunks (n : Notice) (s : State) : (s.submit n).trunks = s.trunks := by
  unfold State.submit; split <;> rfl
@[simp] theorem submit_fireLine (n : Notice) (s : State) : (s.submit n).fireLine = s.fireLine := by
  unfold State.submit; split <;> rfl
@[simp] theorem submit_fireLatch (n : Notice) (s : State) : (s.submit n).fireLatch = s.fireLatch := by
  unfold State.submit; split <;> rfl
@[simp] theorem submit_fireCount (n : Notice) (s : State) : (s.submit n).fireCount = s.fireCount := by
  unfold State.submit; split <;> rfl
@[simp] theorem submit_unit (n : Notice) (s : State) : (s.submit n).unit = s.unit := by
  unfold State.submit; split <;> rfl
@[simp] theorem submit_rateHigh (n : Notice) (s : State) : (s.submit n).rateHigh = s.rateHigh := by
  unfold State.submit; split <;> rfl
@[simp] theorem submit_answers (n : Notice) (s : State) : (s.submit n).answers = s.answers := by
  unfold State.submit; split <;> rfl
@[simp] theorem submit_saveAnswers (n : Notice) (s : State) : (s.submit n).saveAnswers = s.saveAnswers := by
  unfold State.submit; split <;> rfl
@[simp] theorem submit_sending (n : Notice) (s : State) : (s.submit n).sending = s.sending := by
  unfold State.submit; split <;> rfl
@[simp] theorem submit_answersInRow (n : Notice) (s : State) : (s.submit n).answersInRow = s.answersInRow := by
  unfold State.submit; split <;> rfl
@[simp] theorem submit_receiver (n : Notice) (s : State) : (s.submit n).receiver = s.receiver := by
  unfold State.submit; split <;> rfl
@[simp] theorem submit_loader (n : Notice) (s : State) : (s.submit n).loader = s.loader := by
  unfold State.submit; split <;> rfl
@[simp] theorem submit_memory (n : Notice) (s : State) : (s.submit n).memory = s.memory := by
  unfold State.submit; split <;> rfl
@[simp] theorem submit_pending (n : Notice) (s : State) : (s.submit n).pending = s.pending := by
  unfold State.submit; split <;> rfl

@[simp] theorem submit_noticeNumber (n : Notice) (s : State) :
    (s.submit n).noticeNumber = (s.noticeNumber + 1) % 256 := by
  unfold State.submit; split <;> rfl

theorem submit_notices (n : Notice) (s : State) :
    (s.submit n).notices =
      if s.notices.length < 64 then s.notices ++ [⟨s.noticeNumber, n⟩] else s.notices := by
  unfold State.submit; split <;> rfl

theorem submit_resync (n : Notice) (s : State) :
    (s.submit n).resync = (s.resync || !decide (s.notices.length < 64)) := by
  unfold State.submit; split <;> simp [*]

end Sys2Proof.Machine
end

