-- ==== Sys2Proof/Laws/Records.lean ====
section
/-! SUPPORT. Reading a record back after a write: tables, doors, zones, trunks. -/

namespace Sys2Proof

variable {α β : Type} {n : Nat}

theorem table_getD_set (t : Table α n) (i j : Nat) (a b : α) :
    (t.set i a).getD j b = if i = j ∧ j < n then a else t.getD j b := by
  unfold Table.set Table.getD
  simp only [List.getElem?_set, t.size]
  by_cases h : i = j
  · subst h
    by_cases h2 : i < n
    · simp [h2]
    · have : t.rows[i]? = none := List.getElem?_eq_none (by rw [t.size]; omega)
      simp [h2, this]
  · simp [h]

theorem table_getD_mapIdx (f : Nat → α → β) (t : Table α n) (i : Nat) (h : i < n) (a : α) (b : β) :
    (t.mapIdx f).getD i b = f i (t.getD i a) := by
  unfold Table.mapIdx Table.getD
  have : i < t.rows.length := by rw [t.size]; exact h
  simp [this]

theorem table_getD_of_le (t : Table α n) (i : Nat) (h : n ≤ i) (a : α) : t.getD i a = a := by
  unfold Table.getD
  rw [List.getElem?_eq_none (by rw [t.size]; exact h)]
  rfl

theorem table_getD_replicate (i : Nat) (a : α) : (Table.replicate n a).getD i a = a := by
  unfold Table.replicate Table.getD
  by_cases h : i < n <;> simp [h]

theorem table_mem_rows (t : Table α n) (a : α) (h : a ∈ t.rows) (b : α) : ∃ i, i < n ∧ t.getD i b = a := by
  obtain ⟨i, hi, rfl⟩ := List.mem_iff_getElem.mp h
  refine ⟨i, t.size ▸ hi, ?_⟩
  unfold Table.getD
  simp [hi]

theorem table_getD_mem (t : Table α n) (i : Nat) (h : i < n) (b : α) : t.getD i b ∈ t.rows := by
  unfold Table.getD
  have : i < t.rows.length := by rw [t.size]; exact h
  simp [this]

namespace Machine

theorem door_setDoor (d d' : Nat) (r : Door) (s : State) :
    (s.setDoor d r).door d' = if d = d' ∧ d' < 504 then r else s.door d' :=
  table_getD_set s.doors d d' r _

@[simp] theorem door_setDoor_self (d : Nat) (h : d < 504) (r : Door) (s : State) :
    (s.setDoor d r).door d = r := by simp [door_setDoor, h]

theorem door_setDoor_other (d d' : Nat) (h : d ≠ d') (r : Door) (s : State) :
    (s.setDoor d r).door d' = s.door d' := by simp [door_setDoor, h]

theorem door_onDoor (d d' : Nat) (f : Door → Door) (s : State) :
    (s.onDoor d f).door d' = if d = d' ∧ d' < 504 then f (s.door d) else s.door d' :=
  door_setDoor d d' _ s

@[simp] theorem door_onDoor_self (d : Nat) (h : d < 504) (f : Door → Door) (s : State) :
    (s.onDoor d f).door d = f (s.door d) := by simp [door_onDoor, h]

theorem door_onDoor_other (d d' : Nat) (h : d ≠ d') (f : Door → Door) (s : State) :
    (s.onDoor d f).door d' = s.door d' := by simp [door_onDoor, h]

theorem zone_setZone (z z' : Nat) (r : Zone) (s : State) :
    (s.setZone z r).zone z' = if z = z' ∧ z' < 64 then r else s.zone z' :=
  table_getD_set s.zones z z' r _

theorem zone_onZone (z z' : Nat) (f : Zone → Zone) (s : State) :
    (s.onZone z f).zone z' = if z = z' ∧ z' < 64 then f (s.zone z) else s.zone z' :=
  zone_setZone z z' _ s

@[simp] theorem zone_onZone_self (z : Nat) (h : z < 64) (f : Zone → Zone) (s : State) :
    (s.onZone z f).zone z = f (s.zone z) := by simp [zone_onZone, h]

theorem trunk_setTrunk (t t' : Nat) (r : Trunk) (s : State) :
    (s.setTrunk t r).trunk t' = if t = t' ∧ t' < 8 then r else s.trunk t' :=
  table_getD_set s.trunks t t' r _

theorem trunk_onTrunk (t t' : Nat) (f : Trunk → Trunk) (s : State) :
    (s.onTrunk t f).trunk t' = if t = t' ∧ t' < 8 then f (s.trunk t) else s.trunk t' :=
  trunk_setTrunk t t' _ s

@[simp] theorem trunk_onTrunk_self (t : Nat) (h : t < 8) (f : Trunk → Trunk) (s : State) :
    (s.onTrunk t f).trunk t = f (s.trunk t) := by simp [trunk_onTrunk, h]

theorem trunk_onTrunk_other (t t' : Nat) (h : t ≠ t') (f : Trunk → Trunk) (s : State) :
    (s.onTrunk t f).trunk t' = s.trunk t' := by simp [trunk_onTrunk, h]

/-! ### Each kind of record under the updates of the others -/

@[simp] theorem door_setZone (d z : Nat) (r : Zone) (s : State) : (s.setZone z r).door d = s.door d := rfl
@[simp] theorem door_onZone (d z : Nat) (f : Zone → Zone) (s : State) : (s.onZone z f).door d = s.door d := rfl
@[simp] theorem door_setTrunk (d t : Nat) (r : Trunk) (s : State) : (s.setTrunk t r).door d = s.door d := rfl
@[simp] theorem door_onTrunk (d t : Nat) (f : Trunk → Trunk) (s : State) : (s.onTrunk t f).door d = s.door d := rfl
@[simp] theorem door_answer (d : Nat) (a : Answer) (s : State) : (s.answer a).door d = s.door d := rfl
@[simp] theorem door_submit (d : Nat) (n : Notice) (s : State) : (s.submit n).door d = s.door d := by
  unfold State.door; simp
@[simp] theorem zone_setDoor (z d : Nat) (r : Door) (s : State) : (s.setDoor d r).zone z = s.zone z := rfl
@[simp] theorem zone_onDoor (z d : Nat) (f : Door → Door) (s : State) : (s.onDoor d f).zone z = s.zone z := rfl
@[simp] theorem zone_setTrunk (z t : Nat) (r : Trunk) (s : State) : (s.setTrunk t r).zone z = s.zone z := rfl
@[simp] theorem zone_onTrunk (z t : Nat) (f : Trunk → Trunk) (s : State) : (s.onTrunk t f).zone z = s.zone z := rfl
@[simp] theorem zone_answer (z : Nat) (a : Answer) (s : State) : (s.answer a).zone z = s.zone z := rfl
@[simp] theorem zone_submit (z : Nat) (n : Notice) (s : State) : (s.submit n).zone z = s.zone z := by
  unfold State.zone; simp
@[simp] theorem trunk_setDoor (t d : Nat) (r : Door) (s : State) : (s.setDoor d r).trunk t = s.trunk t := rfl
@[simp] theorem trunk_onDoor (t d : Nat) (f : Door → Door) (s : State) : (s.onDoor d f).trunk t = s.trunk t := rfl
@[simp] theorem trunk_setZone (t z : Nat) (r : Zone) (s : State) : (s.setZone z r).trunk t = s.trunk t := rfl
@[simp] theorem trunk_onZone (t z : Nat) (f : Zone → Zone) (s : State) : (s.onZone z f).trunk t = s.trunk t := rfl
@[simp] theorem trunk_answer (t : Nat) (a : Answer) (s : State) : (s.answer a).trunk t = s.trunk t := rfl
@[simp] theorem trunk_submit (t : Nat) (n : Notice) (s : State) : (s.submit n).trunk t = s.trunk t := by
  unfold State.trunk; simp

/-! ### The doors of a condition -/

/-- The doors listed are the mapped ones that satisfy the condition. -/
theorem mem_doorsWhere (s : State) (p : Door → Bool) (d : Nat) :
    d ∈ s.doorsWhere p ↔ d < 504 ∧ (s.door d).place.isSome = true ∧ p (s.door d) = true := by
  unfold State.doorsWhere State.door Table.getD
  simp only [List.mem_map, List.mem_filter, Bool.and_eq_true]
  constructor
  · rintro ⟨⟨r, i⟩, ⟨hm, h1, h2⟩, rfl⟩
    have := List.mem_zipIdx_iff_getElem?.mp hm
    have hlt : i < s.doors.rows.length := (List.getElem?_eq_some_iff.mp this).1
    rw [s.doors.size] at hlt
    simp only at this
    simp [this, hlt, h1, h2]
  · rintro ⟨h, h1, h2⟩
    have hlt : d < s.doors.rows.length := by rw [s.doors.size]; exact h
    refine ⟨(s.doors.rows[d], d), ⟨List.mem_zipIdx_iff_getElem?.mpr ?_, ?_⟩, rfl⟩
    · simp [hlt]
    · simp only [List.getElem?_eq_getElem hlt, Option.getD_some] at h1 h2
      exact ⟨h1, h2⟩

/-- The door of an address is a mapped door with that place. -/
theorem doorAt_some {s : State} {t a d : Nat} (h : s.doorAt t a = some d) :
    d < 504 ∧ (s.door d).place = some ⟨t, a⟩ := by
  unfold State.doorAt at h
  obtain ⟨hlt, hp, -⟩ := List.findIdx?_eq_some_iff_getElem.mp h
  refine ⟨s.doors.size ▸ hlt, ?_⟩
  unfold State.door Table.getD
  simpa [hlt] using hp

end Machine

end Sys2Proof
end

