-- ==== Sys2Proof/Laws/Calm.lean ====
section
/-!
SUPPORT. What the deliveries inside a command leave alone. `Calm s t`: `t` differs from `s` only in live door
and trunk state, pauses, tallies, the queue and the notices. `Quiet s t`: the windows, the evaluation and the
overrides and scheduled states may differ besides.
-/

namespace Sys2Proof.Machine

/-- The state with everything that a delivery may change taken out. -/
def State.still (s : State) : State :=
  { s with
    doors := .replicate 504 (.blank .unmapped), zones := .replicate 64 (.blank .default_),
    trunks := .replicate 8 (.blank .default_ false), queue := [], notices := [], noticeNumber := 0,
    resync := false, windows := .replicate 128 none, evaluated := none, evaluator := .waiting }

/-- The notice queue and the notice number within their limits (R182, R183). -/
def State.noticesOk (s : State) : Prop := s.notices.length ≤ 64 ∧ s.noticeNumber < 256

structure Quiet (s t : State) : Prop where
  still : t.still = s.still
  stored : t.storedTables = s.storedTables
  notices : s.noticesOk → t.noticesOk

structure Calm (s t : State) : Prop extends Quiet s t where
  scheduled : t.zones.rows.map Zone.scheduled = s.zones.rows.map Zone.scheduled
  overrides : t.doors.rows.map Door.override = s.doors.rows.map Door.override
  windows : t.windows = s.windows
  evaluated : t.evaluated = s.evaluated
  evaluator : t.evaluator = s.evaluator

theorem Quiet.refl (s : State) : Quiet s s := ⟨rfl, rfl, id⟩

theorem Quiet.trans {s t u : State} (h : Quiet s t) (k : Quiet t u) : Quiet s u :=
  ⟨k.still.trans h.still, k.stored.trans h.stored, fun x => k.notices (h.notices x)⟩

theorem Calm.refl (s : State) : Calm s s := ⟨.refl s, rfl, rfl, rfl, rfl, rfl⟩

theorem Calm.trans {s t u : State} (h : Calm s t) (k : Calm t u) : Calm s u :=
  ⟨h.toQuiet.trans k.toQuiet, k.scheduled.trans h.scheduled, k.overrides.trans h.overrides,
    k.windows.trans h.windows, k.evaluated.trans h.evaluated, k.evaluator.trans h.evaluator⟩

/-! ### Reading a field through it -/

section
variable {s t : State} (h : Quiet s t)
include h
theorem Quiet.powered : t.powered = s.powered :=
  (congrArg State.powered h.still :)
theorem Quiet.crystal : t.crystal = s.crystal :=
  (congrArg State.crystal h.still :)
theorem Quiet.clock : t.clock = s.clock :=
  (congrArg State.clock h.still :)
theorem Quiet.count : t.count = s.count :=
  (congrArg State.count h.still :)
theorem Quiet.minute : t.minute = s.minute :=
  (congrArg State.minute h.still :)
theorem Quiet.plan : t.plan = s.plan :=
  (congrArg State.plan h.still :)
theorem Quiet.gap : t.gap = s.gap :=
  (congrArg State.gap h.still :)
theorem Quiet.classes : t.classes = s.classes :=
  (congrArg State.classes h.still :)
theorem Quiet.fireLine : t.fireLine = s.fireLine :=
  (congrArg State.fireLine h.still :)
theorem Quiet.fireLatch : t.fireLatch = s.fireLatch :=
  (congrArg State.fireLatch h.still :)
theorem Quiet.fireCount : t.fireCount = s.fireCount :=
  (congrArg State.fireCount h.still :)
theorem Quiet.answers : t.answers = s.answers :=
  (congrArg State.answers h.still :)
theorem Quiet.saveAnswers : t.saveAnswers = s.saveAnswers :=
  (congrArg State.saveAnswers h.still :)
theorem Quiet.answersInRow : t.answersInRow = s.answersInRow :=
  (congrArg State.answersInRow h.still :)
theorem Quiet.sending : t.sending = s.sending :=
  (congrArg State.sending h.still :)
theorem Quiet.receiver : t.receiver = s.receiver :=
  (congrArg State.receiver h.still :)
theorem Quiet.loader : t.loader = s.loader :=
  (congrArg State.loader h.still :)
theorem Quiet.memory : t.memory = s.memory :=
  (congrArg State.memory h.still :)
theorem Quiet.pending : t.pending = s.pending :=
  (congrArg State.pending h.still :)
theorem Quiet.unit : t.unit = s.unit :=
  (congrArg State.unit h.still :)
end

theorem map_set_self {α β : Type} {n : Nat} (g : α → β) (t : Table α n) (i : Nat) (a b : α)
    (h : g a = g (t.getD i b)) : (t.set i a).rows.map g = t.rows.map g := by
  unfold Table.set
  simp only [List.map_set]
  apply List.ext_getElem?
  intro j
  rw [List.getElem?_set]
  by_cases hj : i = j
  · subst hj
    by_cases hl : i < t.rows.length
    · simp [hl, h, Table.getD]
    · simp [hl]
  · simp [hj]

theorem map_mapIdx_self {α β : Type} {n : Nat} (g : α → β) (t : Table α n) (f : Nat → α → α)
    (h : ∀ i a, g (f i a) = g a) : (t.mapIdx f).rows.map g = t.rows.map g := by
  unfold Table.mapIdx
  apply List.ext_getElem?
  intro j
  simp only [List.getElem?_map, List.getElem?_mapIdx]
  cases t.rows[j]? <;> simp [h]

/-! ### The elementary updates -/

theorem calm_setDoor (d : Nat) (r : Door) (s : State) (h : r.toDoorConfig = (s.door d).toDoorConfig)
    (h2 : r.override = (s.door d).override) : Calm s (s.setDoor d r) :=
  ⟨⟨rfl, by
      unfold State.storedTables
      simp [map_set_self Door.toDoorConfig s.doors d _ (.blank .unmapped) h], id⟩,
    rfl, map_set_self _ _ _ _ (.blank .unmapped) h2, rfl, rfl, rfl⟩

theorem calm_onDoor (d : Nat) (f : Door → Door) (s : State)
    (h : ∀ r, (f r).toDoorConfig = r.toDoorConfig) (h2 : ∀ r, (f r).override = r.override) :
    Calm s (s.onDoor d f) := calm_setDoor d _ s (h _) (h2 _)

theorem calm_doors (f : Nat → Door → Door) (s : State)
    (h : ∀ i r, (f i r).toDoorConfig = r.toDoorConfig) (h2 : ∀ i r, (f i r).override = r.override) :
    Calm s { s with doors := s.doors.mapIdx f } :=
  ⟨⟨rfl, by unfold State.storedTables; simp [map_mapIdx_self Door.toDoorConfig s.doors f h], id⟩,
    rfl, map_mapIdx_self _ _ _ h2, rfl, rfl, rfl⟩

theorem calm_onZone (z : Nat) (f : Zone → Zone) (s : State)
    (h : ∀ r, (f r).toZoneConfig = r.toZoneConfig) (h2 : ∀ r, (f r).scheduled = r.scheduled) :
    Calm s (s.onZone z f) :=
  ⟨⟨rfl, by
      unfold State.storedTables
      simp [map_set_self Zone.toZoneConfig s.zones z _ (.blank .default_) (h _), State.zone], id⟩,
    map_set_self _ _ _ _ (.blank .default_) (h2 _), rfl, rfl, rfl, rfl⟩

theorem calm_zones (f : Nat → Zone → Zone) (s : State)
    (h : ∀ i r, (f i r).toZoneConfig = r.toZoneConfig) (h2 : ∀ i r, (f i r).scheduled = r.scheduled) :
    Calm s { s with zones := s.zones.mapIdx f } :=
  ⟨⟨rfl, by unfold State.storedTables; simp [map_mapIdx_self Zone.toZoneConfig s.zones f h], id⟩,
    map_mapIdx_self _ _ _ h2, rfl, rfl, rfl, rfl⟩

theorem calm_onTrunk (t : Nat) (f : Trunk → Trunk) (s : State)
    (h : ∀ r, (f r).toTrunkConfig = r.toTrunkConfig) : Calm s (s.onTrunk t f) :=
  ⟨⟨rfl, by
      unfold State.storedTables
      simp [map_set_self Trunk.toTrunkConfig s.trunks t _ (.blank .default_ false) (h _),
        State.trunk], id⟩,
    rfl, rfl, rfl, rfl, rfl⟩

theorem calm_trunks (f : Nat → Trunk → Trunk) (s : State)
    (h : ∀ i r, (f i r).toTrunkConfig = r.toTrunkConfig) :
    Calm s { s with trunks := s.trunks.mapIdx f } :=
  ⟨⟨rfl, by unfold State.storedTables; simp [map_mapIdx_self Trunk.toTrunkConfig s.trunks f h], id⟩,
    rfl, rfl, rfl, rfl, rfl⟩

theorem calm_queue (q : List Entry) (s : State) : Calm s { s with queue := q } :=
  ⟨⟨rfl, rfl, id⟩, rfl, rfl, rfl, rfl, rfl⟩

theorem calm_submit (n : Notice) (s : State) : Calm s (s.submit n) := by
  unfold State.submit
  split
  · rename_i h
    exact ⟨⟨rfl, rfl, fun _ => ⟨by simp; omega, Nat.mod_lt _ (by omega)⟩⟩, rfl, rfl, rfl, rfl, rfl⟩
  · exact ⟨⟨rfl, rfl, fun x => ⟨x.1, Nat.mod_lt _ (by omega)⟩⟩, rfl, rfl, rfl, rfl, rfl⟩

theorem calm_foldl {α : Type} (f : State → α → State) (h : ∀ s a, Calm s (f s a)) (l : List α) :
    ∀ s, Calm s (l.foldl f s) := by
  induction l with
  | nil => exact Calm.refl
  | cons a l ih => exact fun s => (h s a).trans (ih _)

theorem calm_forEach (ns : List Nat) (f : Nat → State → State) (h : ∀ n s, Calm s (f n s)) (s : State) :
    Calm s (s.forEach ns f) := calm_foldl _ (fun s a => h a s) ns s

theorem quiet_foldl {α : Type} (f : State → α → State) (h : ∀ s a, Quiet s (f s a)) (l : List α) :
    ∀ s, Quiet s (l.foldl f s) := by
  induction l with
  | nil => exact Quiet.refl
  | cons a l ih => exact fun s => (h s a).trans (ih _)

theorem quiet_forEach (ns : List Nat) (f : Nat → State → State) (h : ∀ n s, Quiet s (f n s)) (s : State) :
    Quiet s (s.forEach ns f) := quiet_foldl _ (fun s a => h a s) ns s

theorem calm_ite {p : Prop} {_ : Decidable p} {s a b : State} (ha : p → Calm s a)
    (hb : ¬p → Calm s b) : Calm s (if p then a else b) := by
  split
  · exact ha ‹_›
  · exact hb ‹_›

end Sys2Proof.Machine
end

