-- ==== Sys2Proof/Laws/CalmQueue.lean ====
section
/-! SUPPORT. The sweep queue's and the Door Map's deliveries are calm. -/

namespace Sys2Proof.Machine

/-! ### Doors and nodes -/

@[simp] theorem withAgreement_config (a : Agreement) (r : Door) :
    (r.withAgreement a).toDoorConfig = r.toDoorConfig := rfl
@[simp] theorem withAgreement_override (a : Agreement) (r : Door) :
    (r.withAgreement a).override = r.override := rfl
@[simp] theorem withTarget_config (t : Target) (r : Door) :
    (r.withTarget t).toDoorConfig = r.toDoorConfig := rfl
@[simp] theorem withTarget_override (t : Target) (r : Door) :
    (r.withTarget t).override = r.override := rfl
@[simp] theorem takeSnapshot_config (r : Door) : r.takeSnapshot.toDoorConfig = r.toDoorConfig := by
  unfold Door.takeSnapshot; split <;> rfl
@[simp] theorem takeSnapshot_override (r : Door) : r.takeSnapshot.override = r.override := by
  unfold Door.takeSnapshot; split <;> rfl
@[simp] theorem takeSnapshot_target (r : Door) : r.takeSnapshot.target = r.target := by
  unfold Door.takeSnapshot; split <;> rfl
@[simp] theorem takeSnapshot_agreement (r : Door) : r.takeSnapshot.agreement = r.agreement := by
  unfold Door.takeSnapshot; split <;> rfl
@[simp] theorem takeSnapshot_bolt (r : Door) : r.takeSnapshot.bolt = r.bolt := by
  unfold Door.takeSnapshot; split <;> rfl
@[simp] theorem takeSnapshot_leaf (r : Door) : r.takeSnapshot.leaf = r.leaf := by
  unfold Door.takeSnapshot; split <;> rfl
@[simp] theorem takeSnapshot_tamper (r : Door) : r.takeSnapshot.tamper = r.tamper := by
  unfold Door.takeSnapshot; split <;> rfl
@[simp] theorem observed_config (o : Status) (r : Door) : (r.observed o).toDoorConfig = r.toDoorConfig := rfl
@[simp] theorem observed_override (o : Status) (r : Door) : (r.observed o).override = r.override := rfl
@[simp] theorem noteTamper_config (r : Door) : r.noteTamper.toDoorConfig = r.toDoorConfig := by
  unfold Door.noteTamper; split <;> rfl
@[simp] theorem noteTamper_override (r : Door) : r.noteTamper.override = r.override := by
  unfold Door.noteTamper; split <;> rfl
@[simp] theorem supervise_config (r : Door) : r.supervise.toDoorConfig = r.toDoorConfig := by
  unfold Door.supervise; split
  · split <;> rfl
  · rfl
@[simp] theorem supervise_override (r : Door) : r.supervise.override = r.override := by
  unfold Door.supervise; split
  · split <;> rfl
  · rfl

theorem calm_onNodeOf (d : Nat) (f : Node → Node) (s : State) : Calm s (s.onNodeOf d f) := by
  unfold State.onNodeOf
  split
  · exact calm_onTrunk _ _ s fun _ => rfl
  · exact .refl s

/-! ### The queue -/

theorem calm_putEntry (e : Entry) (s : State) : Calm s (s.putEntry e) :=
  (calm_queue _ s).trans (calm_onNodeOf _ _ _)

theorem calm_dropEntry (d : Nat) (s : State) : Calm s (s.dropEntry d) :=
  (calm_queue _ s).trans (calm_onNodeOf _ _ _)

theorem calm_createEntry (e : Entry) (s : State) : Calm s (s.createEntry e) :=
  (calm_queue _ s).trans (calm_onDoor _ _ _ (fun _ => rfl) fun _ => rfl)

theorem calm_tally (z : Nat) (k : TallyKind) (s : State) : Calm s (s.tally z k) :=
  calm_onZone z _ s (fun _ => rfl) fun _ => rfl

theorem calm_tallyEnd (d : Nat) (k : Option TallyKind) (s : State) : Calm s (s.tallyEnd d k) := by
  unfold State.tallyEnd
  split
  · split
    · exact calm_tally _ _ s
    · exact .refl s
  · exact .refl s

theorem calm_removeEntry (d : Nat) (e : EndState) (k : Option TallyKind) (s : State) :
    Calm s (s.removeEntry d e k) :=
  ((calm_tallyEnd d k s).trans (calm_dropEntry d _)).trans
    (calm_onDoor _ _ _ (fun _ => by simp) fun _ => by simp)

theorem calm_handOff (d : Nat) (t : Target) (o : Origin) (due : Tenths) (s : State) :
    Calm s (s.handOff d t o due) := by
  unfold State.handOff
  split
  · split
    · exact .refl s
    · split
      · exact .refl s
      · exact calm_createEntry _ s
  · split
    · exact calm_putEntry _ s
    · split
      · exact calm_removeEntry _ _ _ s
      · split
        · exact calm_removeEntry _ _ _ s
        · exact calm_putEntry _ s

theorem calm_armCloseWatch (d : Nat) (s : State) : Calm s (s.armCloseWatch d) := calm_onNodeOf _ _ s

theorem calm_armFollowUp (d : Nat) (s : State) : Calm s (s.armFollowUp d) := calm_onNodeOf _ _ s

theorem calm_retryOrHold (e : Entry) (n : Nat) (r : HeldReason) (p : EntryPhase) (s : State) :
    Calm s (s.retryOrHold e n r p) := by
  unfold State.retryOrHold
  split
  · exact calm_removeEntry _ _ _ s
  · exact calm_putEntry _ s

theorem calm_endPlain (e : Entry) (k : AttemptEnd) (s : State) : Calm s (s.endPlain e k) := by
  unfold State.endPlain
  cases k
  · exact calm_removeEntry _ _ _ s
  · simp only
    split
    · exact (calm_retryOrHold _ _ _ _ s).trans (calm_armCloseWatch _ _)
    · exact calm_retryOrHold _ _ _ _ s
  · exact calm_retryOrHold _ _ _ _ s
  · exact calm_putEntry _ s
  · exact calm_retryOrHold _ _ _ _ s
  · exact calm_removeEntry _ _ _ s
  · exact calm_putEntry _ s

theorem calm_applyRetarget (e : Entry) (t : Target) (s : State) : Calm s (s.applyRetarget e t) := by
  unfold State.applyRetarget
  split
  · exact calm_removeEntry _ _ _ s
  · split
    · exact calm_removeEntry _ _ _ s
    · exact calm_putEntry _ s

theorem calm_endAttempt (d : Nat) (k : AttemptEnd) (s : State) : Calm s (s.endAttempt d k) := by
  unfold State.endAttempt
  split
  · split
    · split
      · exact calm_applyRetarget _ _ s
      · exact calm_endPlain _ _ s
    · exact .refl s
  · exact .refl s

theorem calm_driveRequest (t : Nat) (s : State) : Calm s (s.driveRequest t) :=
  calm_onTrunk t _ s fun _ => rfl

theorem calm_driveRequestOf (d : Nat) (s : State) : Calm s (s.driveRequestOf d) := by
  unfold State.driveRequestOf
  split
  · exact calm_driveRequest _ s
  · exact .refl s

theorem calm_driveRequests (s : State) : Calm s s.driveRequests :=
  calm_forEach _ _ (fun n s => calm_driveRequest n s) s

/-! ### Notices of a delivery -/

theorem calm_doorStatus (d : Nat) (s : State) : Calm s (s.doorStatus d) := calm_submit _ s

theorem calm_settled (z : Nat) (s : State) : Calm s (s.settled z) := by
  unfold State.settled
  simp only
  split
  · exact calm_submit _ s
  · exact .refl s

theorem calm_reportDoor (d : Nat) (b : State) (x : Bool) (s : State) : Calm s (s.reportDoor d b x) := by
  unfold State.reportDoor
  split
  · exact calm_doorStatus d s
  · exact .refl s

theorem calm_settleZone (z : Nat) (b s : State) : Calm s (s.settleZone z b) := by
  unfold State.settleZone
  split
  · exact calm_settled z s
  · exact .refl s

theorem calm_delivered (d : Nat) (b : State) (x : Bool) (s : State) : Calm s (s.delivered d b x) :=
  (calm_reportDoor d b x s).trans (calm_settleZone _ _ _)

theorem calm_settleZones (b s : State) : Calm s (s.settleZones b) :=
  calm_forEach _ _ (fun z s => calm_settleZone z b s) s

/-! ### The Door Map -/

theorem calm_concluded (d : Nat) (b : State) (x : Bool) (s : State) : Calm s (s.concluded d b x) :=
  (calm_onDoor _ _ _ (fun _ => by simp) fun _ => by simp).trans (calm_delivered _ _ _ _)

theorem calm_handTarget (d : Nat) (r : Door) (t : Target) (o : Origin) (again : Bool) (s : State) :
    Calm s (s.handTarget d r t o again) := by
  unfold State.handTarget
  split
  · exact .refl s
  · split
    · exact calm_onDoor _ _ s (fun _ => rfl) fun _ => rfl
    · split
      · exact calm_handOff _ _ _ _ s
      · exact .refl s

theorem calm_onDoor_withTarget (d : Nat) (t : Target) (s : State) :
    Calm s (s.onDoor d (Door.withTarget t)) := calm_onDoor _ _ s (fun _ => rfl) fun _ => rfl

theorem calm_liftDoor (d : Nat) (s : State) : Calm s (s.liftDoor d) :=
  calm_onDoor _ _ s (fun _ => by simp) fun _ => by simp

theorem calm_retarget (d : Nat) (o : Origin) (again : Bool) (s : State) : Calm s (s.retarget d o again) := by
  unfold State.retarget
  split
  · exact .refl s
  split
  · exact calm_liftDoor d s
  · exact ((calm_onDoor_withTarget _ _ s).trans (calm_handTarget _ _ _ _ _ _)).trans
      (calm_concluded _ _ _ _)

theorem calm_freeQuietly (d : Nat) (s : State) : Calm s (s.freeQuietly d) :=
  calm_onDoor _ _ s (fun _ => by simp [Door.withTarget]) fun _ => by simp [Door.withTarget]

theorem calm_commandTarget (d : Nat) (again : Bool) (s : State) : Calm s (s.commandTarget d again) := by
  unfold State.commandTarget
  split
  · exact calm_freeQuietly d s
  · exact calm_retarget _ _ _ s

theorem calm_freeDoor (d : Nat) (r : Door) (t : Target) (s : State) : Calm s (s.freeDoor d r t) := by
  unfold State.freeDoor
  split
  · exact calm_onDoor _ _ s (fun _ => rfl) fun _ => rfl
  · exact .refl s

theorem calm_storeTarget (d : Nat) (s : State) : Calm s (s.storeTarget d) :=
  ((calm_onDoor_withTarget _ _ s).trans (calm_freeDoor _ _ _ _)).trans (calm_concluded _ _ _ _)

theorem calm_mismatch (d : Nat) (s : State) : Calm s (s.mismatch d) := by
  unfold State.mismatch
  simp only
  split
  · exact calm_onDoor _ _ s (fun _ => rfl) fun _ => rfl
  · exact calm_handOff _ _ _ _ s

theorem calm_commandReply (e : Entry) (r : NodeResult) (s : State) : Calm s (s.commandReply e r) := by
  unfold State.commandReply
  cases r <;> first | exact calm_putEntry _ s | exact calm_endAttempt _ _ s

theorem calm_followUpResult (e : Entry) (a : Attempt) (s : State) : Calm s (s.followUpResult e a) := by
  unfold State.followUpResult
  simp only
  split
  · exact calm_endAttempt _ _ s
  · split
    · exact calm_endAttempt _ _ s
    · split
      · exact calm_endAttempt _ _ s
      · exact .refl s

theorem calm_entryObserved (d : Nat) (src : Source) (s : State) : Calm s (s.entryObserved d src) := by
  unfold State.entryObserved
  split
  · exact .refl s
  · simp only
    split
    · split
      · split
        · exact calm_removeEntry _ _ _ s
        · exact .refl s
      · exact .refl s
    · split
      · exact calm_removeEntry _ _ _ s
      · split
        · exact calm_putEntry _ s
        · exact .refl s
    · split
      · exact calm_commandReply _ _ s
      · exact calm_followUpResult _ _ s

theorem calm_judge (d : Nat) (src : Source) (s : State) : Calm s (s.judge d src) := by
  have h : ∀ a, Calm s (s.onDoor d (Door.withAgreement a)) := fun a =>
    calm_onDoor _ _ s (fun _ => rfl) fun _ => rfl
  unfold State.judge
  simp only
  split
  · exact calm_entryObserved _ _ s
  · split
    · exact .refl s
    · exact calm_mismatch _ s
  · split
    · split
      · exact h _
      · exact calm_mismatch _ s
    · exact .refl s
  · split
    · exact h _
    · split
      · exact calm_handOff _ _ _ _ s
      · exact .refl s
  · split
    · exact h _
    · exact .refl s

@[simp] theorem seen_config (o : Status) (r : Door) : (r.seen o).toDoorConfig = r.toDoorConfig := by
  unfold Door.seen; simp

@[simp] theorem seen_override (o : Status) (r : Door) : (r.seen o).override = r.override := by
  unfold Door.seen; simp

theorem calm_observe (d : Nat) (o : Status) (src : Source) (s : State) : Calm s (s.observe d o src) := by
  have h : Calm s ((s.setDoor d ((s.door d).seen o)).judge d src) :=
    (calm_setDoor _ _ s (by simp) (by simp)).trans (calm_judge _ _ _)
  have h2 : ∀ s : State, Calm s (s.onDoor d Door.takeSnapshot) := fun s =>
    calm_onDoor _ _ s (fun _ => by simp) fun _ => by simp
  unfold State.observe
  simp only
  split
  · split
    · exact (h.trans (h2 _)).trans (calm_doorStatus _ _)
    · exact h.trans (h2 _)
  · exact h.trans (calm_concluded _ _ _ _)

theorem calm_observeAt (t a : Nat) (o : Status) (src : Source) (s : State) :
    Calm s (s.observeAt t a o src) := by
  unfold State.observeAt
  split
  · exact calm_observe _ _ _ s
  · exact .refl s

end Sys2Proof.Machine
end

