-- ==== Sys2Proof/Laws/CalmTrunks.lean ====
section
/-!
SUPPORT. Batch formation and the Trunk Controllers' operations are calm; an evaluation and the end of start-up
are quiet.
-/

namespace Sys2Proof.Machine

/-! ### Batches -/

theorem calm_handPosition (o : Origin) (d : Nat) (due : Tenths) (s : State) :
    Calm s (s.handPosition o d due) :=
  ((calm_handOff _ _ _ _ s).trans (calm_tally _ _ _)).trans (calm_reportDoor _ _ _ _)

theorem calm_tallyStanding (st : Nat → Standing) (d : Nat) (s : State) :
    Calm s (s.tallyStanding st d) := by
  unfold State.tallyStanding
  split
  · exact calm_tally _ _ s
  · exact .refl s

theorem calm_clearTallies (zs : List Nat) (s : State) : Calm s (s.clearTallies zs) :=
  calm_forEach _ _ (fun _ _ => calm_onZone _ _ _ (by intros; rfl) (by intros; rfl)) s

theorem calm_handEach (ds : List Nat) (t : Target) (o : Origin) (due : Tenths) (s : State) :
    Calm s (s.handEach ds t o due) :=
  calm_forEach _ _ (fun _ _ => (calm_handOff _ _ _ _ _).trans (calm_reportDoor _ _ _ _)) s

theorem calm_dropUntargeted (d : Nat) (s : State) : Calm s (s.dropUntargeted d) := by
  unfold State.dropUntargeted
  split
  · exact (calm_removeEntry _ _ _ s).trans (calm_reportDoor _ _ _ _)
  · exact .refl s

theorem calm_liftIdle (k : BatchKind) (d : Nat) (s : State) : Calm s (s.liftIdle k d) := by
  unfold State.liftIdle
  split
  · exact calm_liftDoor d s
  · exact .refl s

theorem calm_handPlaces (o : Origin) (base : Tenths) (ps : List (Nat × Nat)) (s : State) :
    Calm s (s.handPlaces o base ps) := calm_foldl _ (fun _ _ => calm_handPosition _ _ _ _) ps s

theorem calm_settleEmpty (zs : List Nat) (s : State) : Calm s (s.settleEmpty zs) := by
  refine calm_forEach _ _ (fun z s => ?_) s
  split
  · exact calm_settled z s
  · exact .refl s

theorem calm_formBatch (k : BatchKind) (zs ds : List Nat) (s : State) : Calm s (s.formBatch k zs ds) :=
  (((((calm_clearTallies zs s).trans (calm_forEach _ _ (fun _ _ => calm_tallyStanding _ _ _) _)).trans
    (calm_forEach _ _ (fun _ _ => calm_liftIdle _ _ _) _)).trans
    (calm_forEach _ _ (fun _ _ => calm_dropUntargeted _ _) _)).trans (calm_handPlaces _ _ _ _)).trans
    ((calm_handEach _ _ _ _ _).trans (calm_settleEmpty _ _))

/-! ### Evaluations -/

/-- Doors rewritten without a change of configuration. -/
theorem quiet_doors (f : Nat → Door → Door) (s : State)
    (h : ∀ i r, (f i r).toDoorConfig = r.toDoorConfig) : Quiet s { s with doors := s.doors.mapIdx f } :=
  ⟨rfl, by unfold State.storedTables; simp [map_mapIdx_self Door.toDoorConfig s.doors f h], id⟩

theorem quiet_zones (f : Nat → Zone → Zone) (s : State)
    (h : ∀ i r, (f i r).toZoneConfig = r.toZoneConfig) : Quiet s { s with zones := s.zones.mapIdx f } :=
  ⟨rfl, by unfold State.storedTables; simp [map_mapIdx_self Zone.toZoneConfig s.zones f h], id⟩

theorem quiet_dropTransitional (zs : List Nat) (s : State) : Quiet s (s.dropTransitional zs) := by
  refine quiet_doors _ s fun _ r => ?_
  unfold Door.atTransition; split <;> rfl

theorem calm_storeTargets (zs : List Nat) (s : State) : Calm s (s.storeTargets zs) :=
  calm_forEach _ _ (fun _ _ => calm_storeTarget _ _) _

theorem calm_scheduleBatch (k : BatchKind) (z : ZoneState) (zs : List Nat) (s : State) :
    Calm s (s.scheduleBatch k z zs) := calm_formBatch _ _ _ s

theorem quiet_transition (zs : List Nat) (s : State) : Quiet s (s.transition zs) :=
  (quiet_dropTransitional zs s).trans ((calm_storeTargets _ _).trans
    ((calm_scheduleBatch _ _ _ _).trans (calm_scheduleBatch _ _ _ _))).toQuiet

theorem quiet_stepWindows (m : Nat) (s : State) : Quiet s (s.stepWindows m) := by
  unfold State.stepWindows
  split <;> exact ⟨rfl, rfl, id⟩

theorem quiet_reschedule (m : Nat) (s : State) : Quiet s (s.reschedule m) :=
  quiet_zones _ s fun _ _ => rfl

theorem quiet_evaluate (m : Nat) (s : State) : Quiet s (s.evaluate m) := by
  have h : Quiet s ((s.stepWindows m).reschedule m) :=
    (quiet_stepWindows m s).trans (quiet_reschedule m _)
  unfold State.evaluate
  simp only
  split
  · exact h
  · exact h.trans ((quiet_transition _ _).trans (calm_driveRequests _).toQuiet)

theorem quiet_evaluateActive (m : Nat) (s : State) : Quiet s (s.evaluateActive m) := by
  unfold State.evaluateActive
  split
  · exact .refl s
  · exact quiet_evaluate m s

theorem quiet_reevaluate (s : State) : Quiet s s.reevaluate := by
  unfold State.reevaluate
  split
  · exact .refl s
  · exact quiet_evaluate _ s

@[simp] theorem countdown_config (r : Door) : r.countdown.toDoorConfig = r.toDoorConfig := by
  unfold Door.countdown; split <;> rfl

theorem quiet_lowerOverrides (s : State) : Quiet s s.lowerOverrides := by
  refine quiet_doors _ s fun _ r => ?_
  split <;> simp

theorem quiet_countdown (s : State) : Quiet s s.countdown :=
  (quiet_lowerOverrides s).trans ((calm_forEach _ _ (fun _ _ => calm_retarget _ _ _ _) _).trans
    (calm_driveRequests _)).toQuiet

theorem quiet_evaluated (e : Option Nat) (s : State) : Quiet s { s with evaluated := e } := ⟨rfl, rfl, id⟩

theorem quiet_minuteEvent (m : Nat) (s : State) : Quiet s (s.minuteEvent m) := by
  unfold State.minuteEvent
  simp only
  split
  · exact ((quiet_evaluated _ s).trans (quiet_evaluateActive _ _)).trans (quiet_countdown _)
  · exact ((quiet_evaluated _ s).trans (quiet_countdown _)).trans (quiet_evaluateActive _ _)

theorem quiet_minuteReached (m : Nat) (s : State) : Quiet s (s.minuteReached m) := by
  unfold State.minuteReached
  split
  · split
    · exact quiet_minuteEvent m s
    · exact .refl s
  · exact .refl s

theorem quiet_endStartUp (s : State) : Quiet s s.endStartUp := by
  unfold State.endStartUp
  have h : ∀ (a : EvaluatorState) (e : Option Nat), Quiet s { s with evaluator := a, evaluated := e } :=
    fun _ _ => ⟨rfl, rfl, id⟩
  split
  · exact .refl s
  · simp only
    split
    · exact .refl s
    · split
      · exact ⟨rfl, rfl, id⟩
      · exact (h _ _).trans (quiet_evaluate _ _)

/-! ### Trunks -/

theorem calm_yieldTrunk (t : Nat) (s : State) : Calm s (s.yieldTrunk t) :=
  (calm_onTrunk t _ s (by intros; rfl)).trans (calm_submit _ _)

theorem calm_start (t : Nat) (c : TrunkCommand) (p : Purpose) (r : Rate) (s : State) :
    Calm s (s.start t c p r) := calm_onTrunk t _ s (by intros; rfl)

theorem calm_rollOn (t : Nat) (s : State) : Calm s (s.rollOn t) := by
  unfold State.rollOn
  split <;> exact calm_start _ _ _ _ s

theorem calm_ownLine (t : Nat) (s : State) : Calm s (s.ownLine t) := by
  unfold State.ownLine
  simp only
  have h : Calm s (s.onTrunk t fun r => { r with ownership := .idleOwner }) :=
    calm_onTrunk t _ s (by intros; rfl)
  split
  · exact h.trans (calm_rollOn _ _)
  · exact h

theorem calm_settleOwnership (t : Nat) (s : State) : Calm s (s.settleOwnership t) := by
  unfold State.settleOwnership
  simp only
  split
  · exact (calm_yieldTrunk _ s).trans (calm_driveRequest _ _)
  · exact (calm_ownLine _ s).trans (calm_driveRequest _ _)

theorem calm_endTransaction (t : Nat) (s : State) : Calm s (s.endTransaction t) := by
  unfold State.endTransaction
  simp only
  have h : Calm s (s.onTrunk t fun r => { r with transaction := none }) :=
    calm_onTrunk t _ s (by intros; rfl)
  split
  · exact h.trans (calm_onTrunk t _ _ (by intros; rfl))
  · exact h.trans (calm_settleOwnership _ _)

theorem calm_rollCallDone (t : Nat) (s : State) : Calm s (s.rollCallDone t) :=
  (calm_onTrunk t _ s (by intros; rfl)).trans (calm_submit _ _)

theorem calm_advanceRoll (t a : Nat) (s : State) : Calm s (s.advanceRoll t a) := by
  unfold State.advanceRoll
  split
  · exact calm_onTrunk t _ s (by intros; rfl)
  · split
    · exact calm_rollCallDone t s
    · exact calm_onTrunk t _ s (by intros; rfl)

theorem calm_issue (t : Nat) (e : Entry) (s : State) : Calm s (s.issue t e) := by
  unfold State.issue
  split
  · exact .refl s
  · exact ((calm_putEntry _ s).trans (calm_onDoor _ _ _ (by intros; rfl) (by intros; rfl))).trans
      (calm_start _ _ _ _ _)

theorem calm_select (t : Nat) (s : State) : Calm s (s.select t) := by
  unfold State.select
  simp only
  split
  · split
    · exact calm_start _ _ _ _ s
    · split
      · exact calm_issue _ _ s
      · split
        · exact calm_start _ _ _ _ s
        · exact .refl s
  · exact .refl s

theorem calm_heardFrom (t a : Nat) (s : State) : Calm s (s.heardFrom t a) :=
  calm_onTrunk t _ s (by intros; rfl)

theorem calm_enroll (t a : Nat) (i : Bool) (o : Status) (s : State) : Calm s (s.enroll t a i o) := by
  unfold State.enroll
  exact calm_onTrunk t _ s (by intros; rfl)

theorem calm_bringOnline (t a : Nat) (o : Status) (s : State) : Calm s (s.bringOnline t a o) :=
  (calm_onTrunk t _ s (by intros; rfl)).trans (calm_submit _ _)

theorem calm_postponeRecovery (t a : Nat) (s : State) : Calm s (s.postponeRecovery t a) :=
  calm_onTrunk t _ s (by intros; rfl)

theorem calm_rearmFollowUp (t a : Nat) (s : State) : Calm s (s.rearmFollowUp t a) := by
  unfold State.rearmFollowUp
  split
  · split
    · exact calm_armFollowUp _ s
    · exact .refl s
  · exact .refl s

theorem calm_rearmCloseWatch (t a : Nat) (s : State) : Calm s (s.rearmCloseWatch t a) := by
  unfold State.rearmCloseWatch
  split
  · split
    · exact calm_armCloseWatch _ s
    · exact .refl s
  · exact .refl s

theorem calm_replied (t a : Nat) (x : Transaction) (i : Bool) (o : Status) (s : State) :
    Calm s (s.replied t a x i o) := by
  have h : Calm s ((s.heardFrom t a).observeAt t a o .other) :=
    (calm_heardFrom t a s).trans (calm_observeAt _ _ _ _ _)
  unfold State.replied
  cases x.purpose
  · exact h.trans (calm_endTransaction _ _)
  · simp only
    refine Calm.trans (Calm.trans ((calm_enroll t a i o s).trans ?_) (calm_advanceRoll t a _))
      (calm_endTransaction t _)
    split
    · exact calm_observe _ _ _ _
    · exact calm_submit _ _
  · exact h.trans (calm_endTransaction _ _)
  · exact (h.trans (calm_rearmFollowUp _ _ _)).trans (calm_endTransaction _ _)
  · exact (h.trans (calm_rearmCloseWatch _ _ _)).trans (calm_endTransaction _ _)
  · exact h.trans (calm_endTransaction _ _)
  · exact ((calm_bringOnline t a o s).trans (calm_observeAt _ _ _ _ _)).trans (calm_endTransaction _ _)
  · simp only
    split
    · exact ((calm_observeAt _ _ _ _ s).trans (calm_postponeRecovery _ _ _)).trans
        (calm_endTransaction _ _)
    · exact ((calm_bringOnline t a o s).trans (calm_observeAt _ _ _ _ _)).trans (calm_start _ _ _ _ _)
  · exact h.trans (calm_endTransaction _ _)
  · exact (((calm_heardFrom t a s).trans (calm_observeAt _ _ _ _ _)).trans
      (calm_rearmFollowUp _ _ _)).trans (calm_endTransaction _ _)

theorem quiet_hearReply (t : Nat) (bs : List Byte) (s : State) : Quiet s (s.hearReply t bs) := by
  unfold State.hearReply
  split
  · exact .refl s
  · split
    · exact .refl s
    · split
      · exact .refl s
      · split
        · exact (calm_replied _ _ _ _ _ s).toQuiet.trans (quiet_endStartUp _)
        · exact (calm_onTrunk t _ s (by intros; rfl)).toQuiet

theorem calm_goOffline (t a : Nat) (s : State) : Calm s (s.goOffline t a) := by
  unfold State.goOffline
  simp only
  have h := fun f : Trunk → Trunk => fun hf n =>
    (calm_onTrunk t f s hf).trans (calm_submit n _)
  split
  · exact ((h _ (by intros; rfl) _).trans (calm_removeEntry _ _ _ _)).trans (calm_delivered _ _ _ _)
  · exact h _ (by intros; rfl) _

theorem calm_missedReply (t a : Nat) (s : State) : Calm s (s.missedReply t a) := by
  unfold State.missedReply
  split
  · split
    · split
      · exact calm_onTrunk t _ s (by intros; rfl)
      · exact calm_goOffline t a s
    · exact .refl s
  · exact .refl s

theorem calm_endAttemptNow (d : Nat) (k : AttemptEnd) (s : State) : Calm s (s.endAttemptNow d k) :=
  (calm_endAttempt d k s).trans (calm_delivered _ _ _ _)

theorem calm_unanswered (t a : Nat) (x : Transaction) (s : State) : Calm s (s.unanswered t a x) := by
  have h := fun f : Trunk → Trunk => fun hf => ((calm_onTrunk t f s hf).trans
    (calm_missedReply t a _)).trans (calm_endTransaction t _)
  unfold State.unanswered
  cases x.purpose
  · exact h _ (by intros; rfl)
  · exact (calm_advanceRoll _ _ s).trans (calm_endTransaction _ _)
  · exact h _ (by intros; rfl)
  · exact ((calm_rearmFollowUp _ _ s).trans (calm_missedReply _ _ _)).trans (calm_endTransaction _ _)
  · exact ((calm_rearmCloseWatch _ _ s).trans (calm_missedReply _ _ _)).trans (calm_endTransaction _ _)
  · exact h _ (by intros; rfl)
  · simp only
    split
    · exact (calm_postponeRecovery _ _ s).trans (calm_endTransaction _ _)
    · exact calm_start _ _ _ _ s
  · exact (calm_postponeRecovery _ _ s).trans (calm_endTransaction _ _)
  · exact h _ (by intros; rfl)
  · exact ((calm_endAttemptNow _ _ s).trans (calm_missedReply _ _ _)).trans (calm_endTransaction _ _)

theorem quiet_closeWindow (t : Nat) (s : State) : Quiet s (s.closeWindow t) := by
  have h : Calm s (s.onTrunk t fun r => { r with windowWait := false }) :=
    calm_onTrunk t _ s (by intros; rfl)
  unfold State.closeWindow
  split
  · split
    · split
      · exact .refl s
      · exact (calm_unanswered _ _ _ s).toQuiet.trans (quiet_endStartUp _)
    · exact .refl s
  · split
    · simp only
      split
      · exact (h.trans (calm_ownLine _ _)).toQuiet
      · exact h.toQuiet
    · exact .refl s

theorem quiet_endBroadcast (t : Nat) (s : State) : Quiet s (s.endBroadcast t) := by
  unfold State.endBroadcast
  split
  · simp only
    refine Quiet.trans (Calm.trans ?_ (calm_endTransaction t _)).toQuiet (quiet_endStartUp _)
    split
    · exact calm_onTrunk t _ s (by intros; rfl)
    · exact calm_rollCallDone t s
    · exact .refl s
  · exact .refl s

theorem calm_endTrailer (t : Nat) (s : State) : Calm s (s.endTrailer t) := by
  unfold State.endTrailer
  split
  · simp only
    refine Calm.trans ?_ (calm_endTransaction t _)
    split
    · exact calm_endAttemptNow _ _ s
    · exact .refl s
  · exact .refl s

theorem calm_abortForFire (s : State) : Calm s s.abortForFire := by
  refine calm_trunks _ s fun _ r => ?_
  split
  · split <;> rfl
  · rfl

theorem calm_abortCommand (t : Nat) (s : State) : Calm s (s.abortCommand t) := by
  unfold State.abortCommand
  split
  · split
    · exact calm_endAttempt _ _ s
    · exact .refl s
  · exact .refl s

theorem calm_forgetTrunk (t : Nat) (s : State) : Calm s (s.forgetTrunk t) := by
  unfold State.forgetTrunk
  simp only
  refine Calm.trans (Calm.trans ((calm_abortCommand t s).trans
    (calm_forEach _ _ (fun _ _ => calm_removeEntry _ _ _ _) _)) (calm_doors _ _ ?_ ?_)) (calm_settleZones _ _)
  · intro _ r; split <;> rfl
  · intro _ r; split <;> rfl

theorem calm_resetTrunk (t : Nat) (o : Bool) (s : State) : Calm s (s.resetTrunk t o) := by
  unfold State.resetTrunk
  have h := fun f : Trunk → Trunk => fun hf => (calm_forgetTrunk t s).trans (calm_onTrunk t f _ hf)
  simp only
  split
  · exact h _ (by intros; rfl)
  · exact (h _ (by intros; rfl)).trans (calm_settleOwnership _ _)

theorem quiet_disableTrunk (t : Nat) (s : State) : Quiet s (s.disableTrunk t) :=
  ((calm_forgetTrunk t s).trans (calm_onTrunk t _ _ (by intros; rfl))).toQuiet.trans (quiet_endStartUp _)

theorem calm_graceOn (t : Nat) (s : State) : Calm s (s.graceOn t) := calm_queue _ s

theorem calm_regainTrunk (t : Nat) (s : State) : Calm s (s.regainTrunk t) :=
  (((calm_graceOn t s).trans (calm_submit _ _)).trans (calm_ownLine _ _)).trans (calm_driveRequest _ _)

theorem calm_yieldIfHeld (t : Nat) (s : State) : Calm s (s.yieldIfHeld t) := by
  unfold State.yieldIfHeld
  split
  · exact (calm_yieldTrunk t s).trans (calm_driveRequest _ _)
  · exact .refl s

theorem calm_regainIfFree (t : Nat) (s : State) : Calm s (s.regainIfFree t) := by
  unfold State.regainIfFree
  split
  · exact calm_regainTrunk t s
  · exact .refl s

theorem calm_hearMaster (t : Nat) (bs : List Byte) (s : State) : Calm s (s.hearMaster t bs) := by
  have h := fun f : Trunk → Trunk => fun hf => calm_onTrunk t f s hf
  unfold State.hearMaster
  split
  · split
    · split
      · simp only
        split
        · exact (h _ (by intros; rfl)).trans (calm_onDoor _ _ _ (by intros; rfl) (by intros; rfl))
        · exact h _ (by intros; rfl)
      · exact .refl s
    · exact .refl s
  · exact .refl s

theorem calm_snoopReply (t a : Nat) (o : Status) (s : State) : Calm s (s.snoopReply t a o) :=
  ((calm_onTrunk t _ s (by intros; rfl)).trans (calm_observeAt _ _ _ _ _)).trans (calm_driveRequest _ _)

theorem calm_hearSnooped (t : Nat) (bs : List Byte) (s : State) : Calm s (s.hearSnooped t bs) := by
  unfold State.hearSnooped
  split
  · split
    · exact calm_snoopReply _ _ _ s
    · exact .refl s
  · exact .refl s

theorem calm_sampleSupply (t v : Nat) (s : State) : Calm s (s.sampleSupply t v) := by
  have h : ∀ m, Calm s (s.onTrunk t fun r => { r with measured := m }) := fun m =>
    calm_onTrunk t _ s (by intros; rfl)
  have k : ∀ m (f : Trunk → Trunk) n, (∀ r, (f r).toTrunkConfig = r.toTrunkConfig) →
      Calm s ((((s.onTrunk t fun r => { r with measured := m }).onTrunk t f)).submit n) :=
    fun m f n hf => ((h m).trans (calm_onTrunk t f _ hf)).trans (calm_submit n _)
  unfold State.sampleSupply
  simp only
  split
  · exact h _
  · split
    · exact k _ _ _ (by intros; rfl)
    · exact h _
  · split
    · exact k _ _ _ (by intros; rfl)
    · exact h _

end Sys2Proof.Machine
end

