-- ==== Sys2Proof/Laws/Local.lean ====
section
/-! SUPPORT. A delivery to door `d` leaves every other door alone: `Local d s t` says that the records and the
entries of the other doors are in `t` what they are in `s`. -/

namespace Sys2Proof.Machine

structure Local (d : Nat) (s t : State) : Prop where
  door : ∀ k, k ≠ d → t.door k = s.door k
  entry : ∀ k, k ≠ d → t.entryOf k = s.entryOf k

theorem Local.refl (d : Nat) (s : State) : Local d s s := ⟨fun _ _ => rfl, fun _ _ => rfl⟩

theorem Local.trans {d : Nat} {s t u : State} (h : Local d s t) (k : Local d t u) : Local d s u :=
  ⟨fun x hx => (k.door x hx).trans (h.door x hx), fun x hx => (k.entry x hx).trans (h.entry x hx)⟩

/-- What changes neither the doors nor the queue changes no door's record and no entry. -/
theorem local_of_same {d : Nat} {s t : State} (h1 : t.doors = s.doors) (h2 : t.queue = s.queue) :
    Local d s t := by
  constructor
  · intro k _; unfold State.door; rw [h1]
  · intro k _; unfold State.entryOf; rw [h2]

theorem local_ite {p : Prop} {_ : Decidable p} {d : Nat} {s a b : State} (ha : p → Local d s a)
    (hb : ¬p → Local d s b) : Local d s (if p then a else b) := by
  split
  · exact ha ‹_›
  · exact hb ‹_›

/-! ### The elementary updates -/

theorem local_setDoor (d : Nat) (r : Door) (s : State) : Local d s (s.setDoor d r) :=
  ⟨fun _ hk => door_setDoor_other _ _ (Ne.symm hk) _ _, fun _ _ => rfl⟩

theorem local_onDoor (d : Nat) (f : Door → Door) (s : State) : Local d s (s.onDoor d f) := local_setDoor d _ s

theorem local_onZone (d z : Nat) (f : Zone → Zone) (s : State) : Local d s (s.onZone z f) := local_of_same rfl rfl

theorem local_onTrunk (d t : Nat) (f : Trunk → Trunk) (s : State) : Local d s (s.onTrunk t f) :=
  local_of_same rfl rfl

theorem local_submit (d : Nat) (n : Notice) (s : State) : Local d s (s.submit n) :=
  local_of_same (by simp) (by simp)

theorem onNodeOf_doors (d : Nat) (f : Node → Node) (s : State) : (s.onNodeOf d f).doors = s.doors := by
  unfold State.onNodeOf; split <;> rfl

theorem onNodeOf_queue (d : Nat) (f : Node → Node) (s : State) : (s.onNodeOf d f).queue = s.queue := by
  unfold State.onNodeOf; split <;> rfl

theorem onNodeOf_zones (d : Nat) (f : Node → Node) (s : State) : (s.onNodeOf d f).zones = s.zones := by
  unfold State.onNodeOf; split <;> rfl

theorem local_onNodeOf (d k : Nat) (f : Node → Node) (s : State) : Local d s (s.onNodeOf k f) :=
  local_of_same (onNodeOf_doors k f s) (onNodeOf_queue k f s)

/-! ### The queue -/

theorem putEntry_doors (e : Entry) (s : State) : (s.putEntry e).doors = s.doors := onNodeOf_doors _ _ _

theorem putEntry_queue (e : Entry) (s : State) :
    (s.putEntry e).queue = s.queue.map fun x => if x.door = e.door then e else x := onNodeOf_queue _ _ _

theorem dropEntry_doors (d : Nat) (s : State) : (s.dropEntry d).doors = s.doors := onNodeOf_doors _ _ _

theorem dropEntry_queue (d : Nat) (s : State) :
    (s.dropEntry d).queue = s.queue.filter fun x => decide (x.door ≠ d) := onNodeOf_queue _ _ _

theorem find_map_other (q : List Entry) (e : Entry) (k : Nat) (h : k ≠ e.door) :
    (q.map fun x => if x.door = e.door then e else x).find? (fun x => decide (x.door = k)) =
      q.find? fun x => decide (x.door = k) := by
  induction q with
  | nil => rfl
  | cons x q ih =>
    simp only [List.map_cons, List.find?_cons]
    by_cases hx : x.door = e.door
    · have h1 : ¬e.door = k := fun h' => h h'.symm
      have h2 : ¬x.door = k := by rw [hx]; exact h1
      simp only [if_pos hx, h1, h2, decide_false]
      exact ih
    · simp only [if_neg hx]
      by_cases hk : x.door = k
      · simp [hk]
      · simp only [hk, decide_false]
        exact ih

theorem find_map_self (q : List Entry) (e : Entry) :
    (q.map fun x => if x.door = e.door then e else x).find? (fun x => decide (x.door = e.door)) =
      (q.find? fun x => decide (x.door = e.door)).map fun _ => e := by
  induction q with
  | nil => rfl
  | cons x q ih =>
    simp only [List.map_cons, List.find?_cons]
    by_cases hx : x.door = e.door
    · simp [hx]
    · rw [if_neg hx]
      simp only [hx, decide_false]
      exact ih

theorem find_filter_other (q : List Entry) (d k : Nat) (h : k ≠ d) :
    (q.filter fun x => decide (x.door ≠ d)).find? (fun x => decide (x.door = k)) =
      q.find? fun x => decide (x.door = k) := by
  induction q with
  | nil => rfl
  | cons x q ih =>
    by_cases hx : x.door = d
    · have hk : ¬x.door = k := fun h' => h (h'.symm.trans hx)
      simp only [List.filter_cons, hx, ne_eq, not_true_eq_false, decide_false, List.find?_cons]
      rw [show decide (d = k) = false from by simp; exact fun h' => h h'.symm]
      simpa using ih
    · simp only [List.filter_cons, ne_eq, hx, not_false_eq_true, decide_true, if_true, List.find?_cons]
      cases decide (x.door = k)
      · simpa using ih
      · rfl

theorem find_filter_self (q : List Entry) (d : Nat) :
    (q.filter fun x => decide (x.door ≠ d)).find? (fun x => decide (x.door = d)) = none := by
  rw [List.find?_eq_none]
  intro x hx
  simpa using (List.mem_filter.mp hx).2

/-- An entry put in a door's place is the door's entry, if it had one. -/
theorem entryOf_putEntry (e : Entry) (s : State) :
    (s.putEntry e).entryOf e.door = (s.entryOf e.door).map fun _ => e := by
  unfold State.entryOf; rw [putEntry_queue]; exact find_map_self _ _

theorem entryOf_dropEntry (d : Nat) (s : State) : (s.dropEntry d).entryOf d = none := by
  unfold State.entryOf; rw [dropEntry_queue]; exact find_filter_self _ _

/-- The entry of a door carries the door's number. -/
theorem entryOf_door {s : State} {d : Nat} {e : Entry} (h : s.entryOf d = some e) : e.door = d := by
  simpa using List.find?_some h

theorem entryOf_mem {s : State} {d : Nat} {e : Entry} (h : s.entryOf d = some e) : e ∈ s.queue :=
  List.mem_of_find?_eq_some h

theorem local_putEntry {d : Nat} {e : Entry} (h : e.door = d) (s : State) : Local d s (s.putEntry e) := by
  subst h
  constructor
  · intro k _; unfold State.door; rw [putEntry_doors]
  · intro k hk; unfold State.entryOf; rw [putEntry_queue]; exact find_map_other _ _ _ hk

theorem local_dropEntry (d : Nat) (s : State) : Local d s (s.dropEntry d) := by
  constructor
  · intro k _; unfold State.door; rw [dropEntry_doors]
  · intro k hk; unfold State.entryOf; rw [dropEntry_queue]; exact find_filter_other _ _ _ hk

theorem local_createEntry {d : Nat} {e : Entry} (h : e.door = d) (s : State) :
    Local d s (s.createEntry e) := by
  subst h
  refine Local.trans (t := { s with queue := s.queue ++ [e] }) ⟨fun _ _ => rfl, ?_⟩ (local_onDoor _ _ _)
  intro k hk
  unfold State.entryOf
  simp only [List.find?_append, List.find?_cons, List.find?_nil]
  rw [show decide (e.door = k) = false from by simpa using fun h => hk h.symm]
  simp

theorem local_tally (d z : Nat) (k : TallyKind) (s : State) : Local d s (s.tally z k) := local_onZone _ _ _ s

theorem local_tallyEnd (d : Nat) (k : Option TallyKind) (s : State) : Local d s (s.tallyEnd d k) := by
  unfold State.tallyEnd
  split
  · exact local_ite (fun _ => local_tally _ _ _ s) fun _ => .refl _ s
  · exact .refl _ s

theorem local_removeEntry (d : Nat) (e : EndState) (k : Option TallyKind) (s : State) :
    Local d s (s.removeEntry d e k) :=
  ((local_tallyEnd d k s).trans (local_dropEntry d _)).trans (local_onDoor d _ _)

theorem local_handOff (d : Nat) (t : Target) (o : Origin) (due : Tenths) (s : State) :
    Local d s (s.handOff d t o due) := by
  unfold State.handOff
  split
  · split
    · exact .refl _ s
    · exact local_ite (fun _ => .refl _ s) fun _ => local_createEntry (by rfl) s
  · rename_i e he
    obtain rfl := entryOf_door he
    split
    · exact local_putEntry (by rfl) s
    · split
      · exact local_removeEntry _ _ _ s
      · exact local_ite (fun _ => local_removeEntry _ _ _ s) fun _ => local_putEntry (by rfl) s

theorem local_retryOrHold (e : Entry) (n : Nat) (r : HeldReason) (p : EntryPhase) (s : State) :
    Local e.door s (s.retryOrHold e n r p) :=
  local_ite (fun _ => local_removeEntry _ _ _ s) fun _ => local_putEntry (by rfl) s

theorem local_endPlain (e : Entry) (k : AttemptEnd) (s : State) : Local e.door s (s.endPlain e k) := by
  unfold State.endPlain
  cases k
  · exact local_removeEntry _ _ _ s
  · exact local_ite (fun _ => (local_retryOrHold e _ _ _ s).trans (local_onNodeOf _ _ _ _))
      fun _ => local_retryOrHold e _ _ _ s
  · exact local_retryOrHold e _ _ _ s
  · exact local_putEntry (by rfl) s
  · exact local_retryOrHold e _ _ _ s
  · exact local_removeEntry _ _ _ s
  · exact local_putEntry (by rfl) s

theorem local_applyRetarget (e : Entry) (t : Target) (s : State) : Local e.door s (s.applyRetarget e t) := by
  unfold State.applyRetarget
  split
  · exact local_removeEntry _ _ _ s
  · exact local_ite (fun _ => local_removeEntry _ _ _ s) fun _ => local_putEntry (by rfl) s

theorem local_endAttempt (d : Nat) (k : AttemptEnd) (s : State) : Local d s (s.endAttempt d k) := by
  unfold State.endAttempt
  split
  · rename_i e he
    obtain rfl := entryOf_door he
    split
    · split
      · exact local_applyRetarget e _ s
      · exact local_endPlain e _ s
    · exact .refl _ s
  · exact .refl _ s

/-! ### Notices and the request line -/

theorem local_doorStatus (d k : Nat) (s : State) : Local d s (s.doorStatus k) := local_submit _ _ s

theorem local_settled (d z : Nat) (s : State) : Local d s (s.settled z) := by
  unfold State.settled
  exact local_ite (fun _ => local_submit _ _ s) fun _ => .refl _ s

theorem local_reportDoor (d k : Nat) (b : State) (x : Bool) (s : State) : Local d s (s.reportDoor k b x) :=
  local_ite (fun _ => local_doorStatus _ _ s) fun _ => .refl _ s

theorem local_settleZone (d z : Nat) (b s : State) : Local d s (s.settleZone z b) :=
  local_ite (fun _ => local_settled _ _ s) fun _ => .refl _ s

theorem local_delivered (d k : Nat) (b : State) (x : Bool) (s : State) : Local d s (s.delivered k b x) :=
  (local_reportDoor d k b x s).trans (local_settleZone d _ b _)

theorem local_driveRequest (d t : Nat) (s : State) : Local d s (s.driveRequest t) := local_onTrunk _ _ _ s

theorem local_driveRequestOf (d k : Nat) (s : State) : Local d s (s.driveRequestOf k) := by
  unfold State.driveRequestOf
  split
  · exact local_driveRequest _ _ s
  · exact .refl _ s

/-! ### The Door Map -/

theorem local_concluded (d : Nat) (b : State) (x : Bool) (s : State) : Local d s (s.concluded d b x) :=
  (local_onDoor d _ s).trans (local_delivered d d b x _)

theorem local_handTarget (d : Nat) (r : Door) (t : Target) (o : Origin) (again : Bool) (s : State) :
    Local d s (s.handTarget d r t o again) :=
  local_ite (fun _ => .refl _ s) fun _ => local_ite (fun _ => local_onDoor _ _ s) fun _ =>
    local_ite (fun _ => local_handOff _ _ _ _ s) fun _ => .refl _ s

theorem local_liftDoor (d : Nat) (s : State) : Local d s (s.liftDoor d) := local_onDoor d _ s

theorem local_retarget (d : Nat) (o : Origin) (again : Bool) (s : State) :
    Local d s (s.retarget d o again) :=
  local_ite (fun _ => .refl _ s) fun _ => local_ite (fun _ => local_liftDoor d s) fun _ =>
    ((local_onDoor d _ s).trans (local_handTarget d _ _ _ _ _)).trans (local_concluded d _ _ _)

theorem local_commandTarget (d : Nat) (again : Bool) (s : State) : Local d s (s.commandTarget d again) :=
  local_ite (fun _ => local_onDoor d _ s) fun _ => local_retarget d _ again s

theorem local_storeTarget (d : Nat) (s : State) : Local d s (s.storeTarget d) :=
  ((local_onDoor d _ s).trans (local_ite (fun _ => local_onDoor _ _ _) fun _ => .refl _ _)).trans
    (local_concluded d _ _ _)

theorem local_mismatch (d : Nat) (s : State) : Local d s (s.mismatch d) :=
  local_ite (fun _ => local_onDoor _ _ s) fun _ => local_handOff _ _ _ _ s

theorem local_commandReply (e : Entry) (r : NodeResult) (s : State) :
    Local e.door s (s.commandReply e r) := by
  unfold State.commandReply
  cases r
  case started => exact local_putEntry (by rfl) s
  all_goals exact local_endAttempt _ _ s

theorem local_followUpResult (e : Entry) (a : Attempt) (s : State) :
    Local e.door s (s.followUpResult e a) :=
  local_ite (fun _ => local_endAttempt _ _ s) fun _ => local_ite (fun _ => local_endAttempt _ _ s) fun _ =>
    local_ite (fun _ => local_endAttempt _ _ s) fun _ => .refl _ s

theorem local_entryObserved (d : Nat) (src : Source) (s : State) : Local d s (s.entryObserved d src) := by
  unfold State.entryObserved
  split
  · exact .refl _ s
  · rename_i e he
    obtain rfl := entryOf_door he
    dsimp only
    split
    · split
      · exact local_ite (fun _ => local_removeEntry _ _ _ s) fun _ => .refl _ s
      · exact .refl _ s
    · exact local_ite (fun _ => local_removeEntry _ _ _ s) fun _ =>
        local_ite (fun _ => local_putEntry (by rfl) s) fun _ => .refl _ s
    · split
      · exact local_commandReply e _ s
      · exact local_followUpResult e _ s

theorem local_judge (d : Nat) (src : Source) (s : State) : Local d s (s.judge d src) := by
  unfold State.judge
  dsimp only
  split
  · exact local_entryObserved d src s
  · exact local_ite (fun _ => .refl _ s) fun _ => local_mismatch d s
  · exact local_ite (fun _ => local_ite (fun _ => local_onDoor _ _ s) fun _ => local_mismatch d s)
      fun _ => .refl _ s
  · exact local_ite (fun _ => local_onDoor _ _ s) fun _ =>
      local_ite (fun _ => local_handOff _ _ _ _ s) fun _ => .refl _ s
  · exact local_ite (fun _ => local_onDoor _ _ s) fun _ => .refl _ s

theorem local_observe (d : Nat) (o : Status) (src : Source) (s : State) : Local d s (s.observe d o src) := by
  unfold State.observe
  dsimp only
  have h : Local d s ((s.setDoor d ((s.door d).seen o)).judge d src) :=
    (local_setDoor d _ s).trans (local_judge d src _)
  split
  · exact local_ite (fun _ => (h.trans (local_onDoor d _ _)).trans (local_doorStatus _ _ _))
      fun _ => h.trans (local_onDoor d _ _)
  · exact h.trans (local_concluded d _ _ _)

/-- An attempt's end outside an observation. -/
theorem local_endAttemptNow (d : Nat) (k : AttemptEnd) (s : State) : Local d s (s.endAttemptNow d k) :=
  (local_endAttempt d k s).trans (local_delivered d d _ _ _)

end Sys2Proof.Machine
end

