-- ==== Sys2Proof/Laws/Entries.lean ====
section
/-! SUPPORT. What the queue operations and the notices leave, said once: the queue, the entry and the record of
the door they act on, and the lists they do not touch. -/

namespace Sys2Proof.Machine

/-! ### Creating, removing -/

@[simp] theorem createEntry_queue (e : Entry) (s : State) : (s.createEntry e).queue = s.queue ++ [e] := rfl

theorem createEntry_door {e : Entry} (h : e.door < 504) (s : State) :
    (s.createEntry e).door e.door = (s.door e.door).withAgreement .queued := by
  unfold State.createEntry
  rw [door_onDoor_self _ h]
  rfl

theorem tallyEnd_queue (d : Nat) (k : Option TallyKind) (s : State) : (s.tallyEnd d k).queue = s.queue := by
  unfold State.tallyEnd
  split
  · split <;> rfl
  · rfl

theorem tallyEnd_doors (d : Nat) (k : Option TallyKind) (s : State) : (s.tallyEnd d k).doors = s.doors := by
  unfold State.tallyEnd
  split
  · split <;> rfl
  · rfl

@[simp] theorem removeEntry_queue (d : Nat) (e : EndState) (k : Option TallyKind) (s : State) :
    (s.removeEntry d e k).queue = s.queue.filter fun x => decide (x.door ≠ d) := by
  unfold State.removeEntry
  rw [show ∀ (x : Nat) (f : Door → Door) (t : State), (t.onDoor x f).queue = t.queue from
    by intros; rfl, dropEntry_queue, tallyEnd_queue]

@[simp] theorem removeEntry_entryOf (d : Nat) (e : EndState) (k : Option TallyKind) (s : State) :
    (s.removeEntry d e k).entryOf d = none := by
  unfold State.entryOf
  rw [removeEntry_queue]
  exact find_filter_self _ _

theorem removeEntry_door {d : Nat} (h : d < 504) (e : EndState) (k : Option TallyKind) (s : State) :
    (s.removeEntry d e k).door d =
      ((s.door d).withAgreement (e.agreement (s.door d))).takeSnapshot := by
  unfold State.removeEntry
  rw [door_onDoor_self _ h]
  have : ((s.tallyEnd d k).dropEntry d).door d = s.door d := by
    unfold State.door
    rw [dropEntry_doors, tallyEnd_doors]
  rw [this]

/-! ### Notices -/

/-- What a delivery's notices leave alone: the doors, the zones, the queue and the trunks. -/
structure Told (s t : State) : Prop where
  doors : t.doors = s.doors
  zones : t.zones = s.zones
  queue : t.queue = s.queue
  trunks : t.trunks = s.trunks

theorem Told.refl (s : State) : Told s s := ⟨rfl, rfl, rfl, rfl⟩

theorem Told.trans {s t u : State} (h : Told s t) (k : Told t u) : Told s u :=
  ⟨k.doors.trans h.doors, k.zones.trans h.zones, k.queue.trans h.queue, k.trunks.trans h.trunks⟩

theorem told_submit (n : Notice) (s : State) : Told s (s.submit n) := by
  unfold State.submit; split <;> exact ⟨rfl, rfl, rfl, rfl⟩

theorem told_settled (z : Nat) (s : State) : Told s (s.settled z) := by
  unfold State.settled
  dsimp only
  split
  · exact told_submit _ s
  · exact .refl s

theorem told_reportDoor (d : Nat) (b : State) (x : Bool) (s : State) : Told s (s.reportDoor d b x) := by
  unfold State.reportDoor
  split
  · exact told_submit _ s
  · exact .refl s

theorem told_settleZone (z : Nat) (b s : State) : Told s (s.settleZone z b) := by
  unfold State.settleZone
  split
  · exact told_settled z s
  · exact .refl s

theorem told_delivered (d : Nat) (b : State) (x : Bool) (s : State) : Told s (s.delivered d b x) :=
  (told_reportDoor d b x s).trans (told_settleZone _ b _)

theorem concluded_queue (d : Nat) (b : State) (x : Bool) (s : State) : (s.concluded d b x).queue = s.queue :=
  (told_delivered d b x _).queue

theorem concluded_trunks (d : Nat) (b : State) (x : Bool) (s : State) :
    (s.concluded d b x).trunks = s.trunks := (told_delivered d b x _).trunks

theorem concluded_zones (d : Nat) (b : State) (x : Bool) (s : State) : (s.concluded d b x).zones = s.zones :=
  (told_delivered d b x _).zones

theorem concluded_door {d : Nat} (h : d < 504) (b : State) (x : Bool) (s : State) :
    (s.concluded d b x).door d = (s.door d).takeSnapshot := by
  unfold State.concluded State.door
  rw [(told_delivered d b x _).doors]
  exact door_onDoor_self d h Door.takeSnapshot s

/-! ### Doors put aside, entries without a target -/

@[simp] theorem liftDoor_queue (d : Nat) (s : State) : (s.liftDoor d).queue = s.queue := rfl
@[simp] theorem liftDoor_notices (d : Nat) (s : State) : (s.liftDoor d).notices = s.notices := rfl
@[simp] theorem liftDoor_zones (d : Nat) (s : State) : (s.liftDoor d).zones = s.zones := rfl
@[simp] theorem liftDoor_trunks (d : Nat) (s : State) : (s.liftDoor d).trunks = s.trunks := rfl

theorem liftDoor_door {d : Nat} (h : d < 504) (s : State) :
    (s.liftDoor d).door d = ((s.door d).withAgreement .inStep).takeSnapshot := door_onDoor_self d h _ s

/-- A hand-off that may repeat an unchanged target finds a door put aside and in step: it is made IN-STEP where
it is, and nothing else happens (R18). -/
theorem retarget_lifts {d : Nat} (o : Origin) {s : State} (hp : (s.door d).place.isSome = true)
    (ht : s.targetFor (s.door d) = (s.door d).target) (hi : (s.door d).isIdleAside = true) :
    s.retarget d o true = s.liftDoor d := by
  unfold State.retarget
  rw [if_neg (by cases h : (s.door d).place <;> simp_all), if_pos ⟨rfl, ht, hi⟩]

/-- What a door command does to its door once the override is written: a door put aside that the new target frees
is made IN-STEP where it is, with no entry and no notice (R158); any other is retargeted. -/
theorem commandTarget_cases (d : Nat) (again : Bool) (s : State) :
    ((s.door d).isFreedBy (s.targetFor (s.door d)) = true ∧ Config.noticeWithoutEntry s.count = false ∧
      s.commandTarget d again = s.freeQuietly d) ∨
    (((s.door d).isFreedBy (s.targetFor (s.door d)) = false ∨ Config.noticeWithoutEntry s.count = true) ∧
      s.commandTarget d again = s.retarget d .override again) := by
  unfold State.commandTarget
  cases (s.door d).isFreedBy (s.targetFor (s.door d)) <;> cases Config.noticeWithoutEntry s.count <;> simp

/-- A restoration to the target NONE leaves the door no entry (R56). -/
theorem dropUntargeted_entryOf (d : Nat) (s : State) : (s.dropUntargeted d).entryOf d = none := by
  unfold State.dropUntargeted
  split
  · unfold State.entryOf
    rw [(told_reportDoor d s false _).queue]
    exact removeEntry_entryOf _ _ _ _
  · next h => simpa using h

/-- What a reset does to the attempt of the command on the line: nothing, or the end of one that is never
issued (R88). -/
theorem abortCommand_cases (t : Nat) (s : State) :
    s.abortCommand t = s ∨ ∃ d, s.abortCommand t = s.endAttempt d .aborted := by
  unfold State.abortCommand
  split
  · split
    · exact .inr ⟨_, rfl⟩
    · exact .inl rfl
  · exact .inl rfl

end Sys2Proof.Machine
end

