-- ==== Sys2Proof/Laws/Requests.lean ====
section
/-! SUPPORT. What the shared operations of the commands answer: an event of a powered part, a frame that is taken,
a request that is dispatched, turned away or discarded. -/

namespace Sys2Proof.Machine

theorem event_powered {f : State → State} {s : State} (h : s.powered = true) :
    s.event f = .next (f s) := by simp [State.event, h]

theorem trunkEvent_powered {f : State → State} {s : State} {t : Nat} (h : s.powered = true) (ht : t < 8) :
    s.trunkEvent t f = .next (f s) := by simp [State.trunkEvent, h, ht]

theorem trunkEvent_absent {f : State → State} {s : State} {t : Nat} (h : 8 ≤ t) :
    s.trunkEvent t f = .fault .noSuchTrunk := by
  simp only [State.trunkEvent, Nat.not_lt.mpr h, if_false]

theorem doorEvent_powered {f : State → State} {s : State} {d : Nat} (h : s.powered = true) (hd : d < 504) :
    s.doorEvent d f = .next (f s) := by simp [State.doorEvent, h, hd]

theorem doorEvent_absent {f : State → State} {s : State} {d : Nat} (h : 504 ≤ d) :
    s.doorEvent d f = .fault .noSuchDoor := by
  simp only [State.doorEvent, Nat.not_lt.mpr h, if_false]

/-- A frame is acted on, or leaves the part as it was. -/
theorem takeFrame_cases (f : State → State) (s : State) :
    (s.takes ∧ s.takeFrame f = f s) ∨ (¬s.takes ∧ s.takeFrame f = s) := by
  unfold State.takeFrame State.takes
  by_cases h : s.powered = true ∧ s.answers.length < 8
  · simp [h]
  · simp only [h, not_false_eq_true, true_and, false_and, false_or]
    rw [if_neg]
    simpa using h

theorem takeFrame_takes {f : State → State} {s : State} (h : s.takes) : s.takeFrame f = f s := by
  simp [State.takeFrame, h.1, h.2]

theorem takeFrame_full {f : State → State} {s : State} (h : 8 ≤ s.answers.length) :
    s.takeFrame f = s := by simp [State.takeFrame, Nat.not_lt.mpr h]

theorem takeFrame_unpowered {f : State → State} {s : State} (h : s.powered = false) :
    s.takeFrame f = s := by simp [State.takeFrame, h]

@[simp] theorem gated_idle {g : Gate} {s : State} (h : s.loader = .idle) : s.gated g = false := by
  unfold State.gated; cases g <;> simp [h]

@[simp] theorem gated_always (s : State) : s.gated .always = false := rfl

theorem gated_notLoading {s : State} : s.gated .notLoading = decide (s.loader = .loading) := by
  unfold State.gated; cases s.loader <;> simp

theorem gated_notSaving {s : State} : s.gated .notSaving = decide (s.loader ≠ .idle) := by
  unfold State.gated; cases s.loader <;> simp

/-- A request that is dispatched is carried out and answered from the state after it. -/
theorem serve_dispatched {g : Gate} {tag code : Nat} {f : State → Served} {s : State} (h : s.takes)
    (hg : s.gated g = false) :
    s.serve g tag code f = (f s).state.answer (.mgmt tag code (f s).result (f s).data) := by
  simp [State.serve, takeFrame_takes h, hg]

theorem serve_serves {g : Gate} {tag code : Nat} {f : State → Served} {s : State} (h : s.serves) :
    s.serve g tag code f = (f s).state.answer (.mgmt tag code (f s).result (f s).data) :=
  serve_dispatched h.1 (gated_idle h.2)

/-- A request that is not dispatched is answered BUSY and changes nothing else. -/
theorem serve_busy {g : Gate} {tag code : Nat} {f : State → Served} {s : State} (h : s.takes)
    (hg : s.gated g = true) : s.serve g tag code f = s.answer (.mgmt tag code .busy []) := by
  simp [State.serve, takeFrame_takes h, hg, refuse]

/-- Everything a request can lead to: nothing, BUSY, or its owner's effect with its answer. -/
theorem serve_cases (g : Gate) (tag code : Nat) (f : State → Served) (s : State) :
    (¬s.takes ∧ s.serve g tag code f = s) ∨
    (s.takes ∧ s.gated g = true ∧ s.serve g tag code f = s.answer (.mgmt tag code .busy [])) ∨
    (s.takes ∧ s.gated g = false ∧
      s.serve g tag code f = (f s).state.answer (.mgmt tag code (f s).result (f s).data)) := by
  rcases takeFrame_cases (fun s => s) s with ⟨h, -⟩ | ⟨h, -⟩
  · cases hg : s.gated g
    · exact .inr (.inr ⟨h, rfl, serve_dispatched h hg⟩)
    · exact .inr (.inl ⟨h, rfl, serve_busy h hg⟩)
  · refine .inl ⟨h, ?_⟩
    unfold State.serve
    rcases takeFrame_cases (fun s =>
      let o := if s.gated g then refuse .busy s else f s
      o.state.answer (.mgmt tag code o.result o.data)) s with ⟨h', -⟩ | ⟨-, e⟩
    · exact absurd h' h
    · exact e

/-- Everything a door command can lead to: nothing, a refusal, or its effect with its answer. -/
theorem doorCommand_cases (a : DoorAction) (c : DoorCmd) (f : State → State × DoorResult) (s : State) :
    (¬s.takes ∧ s.doorCommand a c f = s) ∨
    (∃ x, s.takes ∧ s.doorCheck a c = some x ∧ s.doorCommand a c f = s.answer (s.doorAnswer a c x)) ∨
    (s.takes ∧ s.doorCheck a c = none ∧
      s.doorCommand a c f = (f s).1.answer ((f s).1.doorAnswer a c (f s).2)) := by
  by_cases h : s.takes
  · right
    simp only [State.doorCommand, takeFrame_takes h]
    cases hc : s.doorCheck a c with
    | some x => exact .inl ⟨x, h, rfl, rfl⟩
    | none => exact .inr ⟨h, rfl, rfl⟩
  · refine .inl ⟨h, ?_⟩
    unfold State.doorCommand State.takeFrame
    rw [if_neg]
    simpa [State.takes] using h

end Sys2Proof.Machine
end

