-- ==== Sys2Proof/Laws/RollCall.lean ====
section
/-! SUPPORT. The rate that a roll call chooses is the one rate that `Trunk.chooses` describes (R109). -/

namespace Sys2Proof.Machine

theorem Rate.code_injective {a b : Rate} (h : a.code = b.code) : a = b := by
  cases a <;> cases b <;> first | rfl | cases h

/-- The lower of a rate and a node's maximum rate, as `chosenRate` folds them. -/
theorem lowestRate_fold (ns : List Node) : ∀ r : Rate,
    let x := ns.foldl (fun r n => if n.maxRate.code < r.code then n.maxRate else r) r
    x.code ≤ r.code ∧ (∀ m ∈ ns, x.code ≤ m.maxRate.code) ∧ (x = r ∨ ∃ m ∈ ns, x = m.maxRate) := by
  induction ns with
  | nil => exact fun r => ⟨Nat.le_refl _, nofun, .inl rfl⟩
  | cons n ns ih =>
    intro r
    simp only [List.foldl_cons]
    by_cases h : n.maxRate.code < r.code
    · rw [if_pos h]
      obtain ⟨h1, h2, h3⟩ := ih n.maxRate
      refine ⟨by omega, fun m hm => ?_, .inr ?_⟩
      · exact (List.mem_cons.1 hm).elim (fun e => e ▸ h1) (h2 m)
      · rcases h3 with h3 | ⟨m, hm, h3⟩
        · exact ⟨n, List.mem_cons_self .., h3⟩
        · exact ⟨m, List.mem_cons_of_mem _ hm, h3⟩
    · rw [if_neg h]
      obtain ⟨h1, h2, h3⟩ := ih r
      refine ⟨h1, fun m hm => ?_, h3.imp_right fun ⟨m, hm, h3⟩ => ⟨m, List.mem_cons_of_mem _ hm, h3⟩⟩
      rcases List.mem_cons.1 hm with rfl | hm
      · omega
      · exact h2 m hm

theorem chosenRate_chooses (r : Trunk) : r.chooses (chosenRate r.roster) := by
  unfold Trunk.chooses
  cases h : r.roster with
  | nil => exact .inl ⟨rfl, rfl⟩
  | cons n ns =>
    obtain ⟨h1, h2, h3⟩ := lowestRate_fold ns n.maxRate
    refine .inr ⟨fun m hm => ?_, ?_⟩
    · rcases List.mem_cons.1 hm with rfl | hm
      · exact h1
      · exact h2 m hm
    · rcases h3 with h3 | ⟨m, hm, h3⟩
      · exact ⟨n, List.mem_cons_self .., h3⟩
      · exact ⟨m, List.mem_cons_of_mem _ hm, h3⟩

theorem chooses_unique {r : Trunk} {x y : Rate} (hx : r.chooses x) (hy : r.chooses y) : x = y := by
  rcases hx with ⟨h, rfl⟩ | ⟨hx, m, hm, rfl⟩ <;> rcases hy with ⟨h', rfl⟩ | ⟨hy, k, hk, rfl⟩
  · rfl
  · rw [h] at hk; cases hk
  · rw [h'] at hm; cases hm
  · exact Rate.code_injective (Nat.le_antisymm (hx k hk) (hy m hm))

end Sys2Proof.Machine
end

