-- ==== Sys2Proof/Laws/Settings.lean ====
section
/-! SUPPORT. What a written page of the stored image holds. -/

namespace Sys2Proof.Machine

/-- A record of a table whose page `k` is written is its owner's where it begins in page `k`, and otherwise the one
that was stored. -/
theorem copyRecords_getD {α : Type} {n : Nat} (base size k : Nat) (owner stored : Table α n) (i : Nat) (a : α) :
    (copyRecords base size k owner stored).getD i a =
      if pageOf (base + size * i) = k then owner.getD i a else stored.getD i a := by
  unfold copyRecords Table.getD
  by_cases h : i < n
  · have ho : i < owner.rows.length := owner.size.symm ▸ h
    have hs : i < stored.rows.length := stored.size.symm ▸ h
    have hz : (stored.rows.zip owner.rows)[i]? = some (stored.rows[i], owner.rows[i]) :=
      List.getElem?_zip_eq_some.2 ⟨List.getElem?_eq_getElem hs, List.getElem?_eq_getElem ho⟩
    simp only [List.getElem?_mapIdx, List.getElem?_eq_getElem, ho, hs, hz]
    split <;> simp
  · have ho : owner.rows[i]? = none := by simp [owner.size]; omega
    have hs : stored.rows[i]? = none := by simp [stored.size]; omega
    rw [ho, hs, List.getElem?_eq_none (by simpa [stored.size, owner.size] using h), ite_self]

end Sys2Proof.Machine
end

