-- ==== Sys2Proof/Tests/Site.lean ====
section
/-! SUPPORT. A small site for the tests: eight mapped doors on three trunks, a queue with an entry in each state,
and the proof that the stated invariants hold of it. -/

namespace Sys2Proof.Tests

/- One proof at a time: each is a kernel evaluation, and many at once ask for a thread each. -/
set_option Elab.async false

open Sys2Proof Sys2Proof.Machine

/-- A part in service with no door mapped: the clock RUNNING at minute 100, the Evaluator ACTIVE. -/
def base : State :=
  { State.reset with
    loader := .idle, evaluator := .active, clock := .running, evaluated := some 100, minute := 100,
    count := 1000#32, notices := [], noticeNumber := 0, resync := false }

/-- A mapped door at a place, in a zone, with a bolt and an agreement; its target is LOCKED. -/
def doorIn (t a z : Nat) (egress : Bool) (bolt : Bolt) (ag : Agreement) : Door :=
  { Door.blank ⟨some ⟨t, a⟩, z, 0, egress, false, false⟩ with
    bolt := bolt, leaf := .closed, target := some .locked, agreement := ag }

/-- The mapped doors of the site. -/
def siteDoors : List (Nat × Door) :=
  [(10, doorIn 0 1 0 false .thrown .inStep),
   (11, doorIn 0 2 0 false .withdrawn .queued),
   (12, doorIn 0 3 0 false .withdrawn .queued),
   (13, doorIn 1 1 0 false .withdrawn .queued),
   (14, doorIn 1 2 1 false .withdrawn (.heldOut .doorOpen)),
   (15, doorIn 0 4 1 true .unknown .unknown),
   (16, { doorIn 0 5 1 true .thrown .inStep with override := some ⟨.locked, 2, .minutes 1⟩ }),
   (350, doorIn 7 63 63 false .thrown .inStep)]

/-- Records stored one by one. -/
def putDoors (l : List (Nat × Door)) (s : State) : State := l.foldl (fun s p => s.setDoor p.1 p.2) s

/-- The THROW of door 12, issued 60 tenths ago, its limit 20 tenths past. -/
def attempt : Attempt := ⟨4, 940#32, 980#32, none, false⟩

def siteQueue : List Entry :=
  [⟨11, .drive .locked, .schedule, 900#32, 0, .pending⟩,
   ⟨12, .drive .locked, .schedule, 900#32, 1, .issued attempt⟩,
   ⟨13, .drive .locked, .schedule, 1000#32, 1, .waitClose⟩]

/-- A node ONLINE with a routine due. -/
def nodeAt (a : Nat) (due : Option Tenths) : Node := ⟨a, 3, .r19200, true, 0, due, none, none, none⟩

def running (o : Ownership) (roster : List Node) : Trunk :=
  { Trunk.blank .default_ false with state := .running, ownership := o, rate := .r19200, roster := roster }

def secureZone : Zone := { Zone.blank .default_ with scheduled := some .secure }

/-- TC0 RUNNING and owned, TC1 RUNNING and yielded, TC2 at ROLL 3 of its roll call, the others DISABLED. -/
def siteRest : State :=
  let s := ((base.setZone 0 secureZone).setZone 1 secureZone).setZone 63 secureZone
  let s := s.setTrunk 0 (running .idleOwner
    [nodeAt 1 (some 2000#32), nodeAt 2 (some 2000#32), nodeAt 3 (some 2000#32), nodeAt 5 (some 2000#32)])
  let s := s.setTrunk 1 { running .yielded [nodeAt 1 (some 2000#32), nodeAt 2 none] with
    shared := .threeLine, hold := true, snoops := [⟨2, false⟩] }
  let s := s.setTrunk 2 { Trunk.blank .default_ false with
    state := .rollCall, ownership := .driving, rollStep := .roll 3,
    transaction := some ⟨.roll 3, .rollCall, .r9600, .frame, false⟩ }
  { s with queue := siteQueue }

def site : State := putDoors siteDoors siteRest

/-! ### The invariants of a state whose doors are the site's -/

theorem door_putDoors_other (l : List (Nat × Door)) (d : Nat) :
    ∀ s : State, (∀ p ∈ l, p.1 ≠ d) → (putDoors l s).door d = s.door d := by
  induction l with
  | nil => intro s _; rfl
  | cons p l ih =>
    intro s h
    have h1 := ih (s.setDoor p.1 p.2) fun q hq => h q (List.mem_cons_of_mem _ hq)
    exact h1.trans (door_setDoor_other _ _ (h p (List.mem_cons_self ..)) _ _)

/-- A property of every record holds if it holds of the listed ones and of an unmapped one. -/
theorem all_doors {s : State} {l : List (Nat × Door)} (hs : s.doors = (putDoors l base).doors)
    (P : Nat → Door → Prop) (h0 : ∀ d, P d (.blank .unmapped)) (h1 : ∀ p ∈ l, P p.1 (s.door p.1)) (d : Nat) :
    P d (s.door d) := by
  by_cases h : ∃ p ∈ l, p.1 = d
  · obtain ⟨p, hp, rfl⟩ := h
    exact h1 p hp
  · have : s.door d = .blank .unmapped := by
      have e : s.door d = (putDoors l base).door d := by unfold State.door; rw [hs]
      rw [e, door_putDoors_other l d base fun p hp hq => h ⟨p, hp, hq⟩]
      exact table_getD_replicate _ _
    rw [this]
    exact h0 d

theorem queueInv_of {s : State} {l : List (Nat × Door)} (hs : s.doors = (putDoors l base).doors)
    (hq : (s.queue.map Entry.door).Nodup)
    (he : ∀ e ∈ s.queue, e.door < 504 ∧ (s.door e.door).place.isSome = true)
    (hk : ∀ p ∈ l, (s.door p.1).place.isSome = true ∧
      ((s.door p.1).agreement = .queued ↔ (s.entryOf p.1).isSome = true))
    (hl : s.loader ≠ .loading) : QueueInv s := by
  refine ⟨hq, he, fun d _ hp => ?_, fun d _ hp => ?_, fun h => absurd h hl⟩
  · refine all_doors hs (fun d r => r.place.isSome = true →
      (r.agreement = .queued ↔ (s.entryOf d).isSome = true)) (fun d h => by cases h)
      (fun p hp _ => (hk p hp).2) d hp
  · refine all_doors hs (fun _ r => r.place = none → r.isBlank) (fun _ _ => rfl)
      (fun p hp h => ?_) d hp
    have := (hk p hp).1
    rw [h] at this
    cases this

/-- `QueueInv` reads the doors, the queue and the loader only. -/
theorem queueInv_congr {s t : State} (h : QueueInv s) (hd : t.doors = s.doors) (hq : t.queue = s.queue)
    (hl : t.loader = s.loader) : QueueInv t := by
  have e1 : ∀ d, t.door d = s.door d := fun d => by unfold State.door; rw [hd]
  have e2 : ∀ d, t.entryOf d = s.entryOf d := fun d => by unfold State.entryOf; rw [hq]
  obtain ⟨a, b, c, d, e⟩ := h
  exact ⟨by rw [hq]; exact a, by rw [hq]; simpa only [e1] using b, by simpa only [e1, e2] using c,
    by simpa only [e1] using d, by rw [hl]; simpa only [e1] using e⟩

theorem queueInv_onTrunk (n : Nat) (f : Trunk → Trunk) {s : State} (h : QueueInv s) :
    QueueInv (s.onTrunk n f) := queueInv_congr h rfl rfl rfl

theorem targetInv_of {s : State} {l : List (Nat × Door)} (hs : s.doors = (putDoors l base).doors)
    (hk : ∀ p ∈ l, (s.door p.1).target = s.targetFor (s.door p.1)) : TargetInv s :=
  fun d _ => all_doors hs (fun _ r => r.target = s.targetFor r) (fun _ => rfl) hk d

/-- `Trunk.rosterInv`, checked. -/
def rosterOk (r : Trunk) : Bool :=
  decide ((r.roster.map Node.addr).Pairwise (· < ·)) &&
  (r.roster.all fun n => decide (1 ≤ n.addr) && decide (n.addr ≤ 63)) &&
  (match r.rollStep with
   | .roll a => decide (1 ≤ a) && decide (a ≤ 63)
   | _ => true) &&
  (match r.transaction with
   | some x =>
     decide (x.purpose ≠ .rollCall) ||
     (match x.command.addr with
      | some a => decide (1 ≤ a) && decide (a ≤ 63)
      | none => false)
   | none => true)

theorem rosterInv_of {r : Trunk} (h : rosterOk r = true) : r.rosterInv := by
  simp only [rosterOk, Bool.and_eq_true, decide_eq_true_eq, List.all_eq_true] at h
  obtain ⟨⟨⟨h1, h2⟩, h3⟩, h4⟩ := h
  refine ⟨h1, h2, fun a ha => ?_, fun x hx hp => ?_⟩
  · simpa [ha] using h3
  · rw [hx] at h4
    cases hc : x.command.addr with
    | none => simp [hp, hc] at h4
    | some a => exact ⟨a, rfl, by simpa [hp, hc] using h4⟩

theorem site_doors : site.doors = (putDoors siteDoors base).doors := rfl

theorem site_queueInv : QueueInv site :=
  queueInv_of site_doors (by decide +kernel) (by decide +kernel) (by decide +kernel) (by decide +kernel)

theorem site_targetInv : TargetInv site := targetInv_of site_doors (by decide +kernel)

theorem site_rosterInv : RosterInv site := fun t ht =>
  rosterInv_of ((show ∀ t, t < 8 → rosterOk (site.trunk t) = true by decide +kernel) t ht)

theorem site_budgetInv : BudgetInv site := by
  unfold BudgetInv State.isWithinBudget
  decide +kernel

theorem site_siteInv : SiteInv site := by
  unfold SiteInv
  decide +kernel

/-! ### A site with one door -/

/-- The site with one mapped door, number 12, at node 3 of TC0, and the queue given. -/
def one (r : Door) (q : List Entry) : State := { putDoors [(12, r)] siteRest with queue := q }

/-- A door at node 3 of TC0, in zone 0, its target LOCKED. -/
def doorAt3 (bolt : Bolt) (ag : Agreement) : Door := doorIn 0 3 0 false bolt ag

theorem one_door (r : Door) (q : List Entry) : (one r q).door 12 = r :=
  door_setDoor_self 12 (by decide) r siteRest

theorem one_queueInv {r : Door} {q : List Entry} (hp : r.place.isSome = true)
    (hq : q.map Entry.door = if r.agreement = .queued then [12] else []) : QueueInv (one r q) := by
  have hm : ∀ e ∈ q, e.door = 12 := fun e he => by
    have h := List.mem_map_of_mem (f := Entry.door) he
    rw [hq] at h
    split at h <;> simp_all
  refine queueInv_of (l := [(12, r)]) rfl ?_ (fun e he => ?_) (fun p hp' => ?_) nofun
  · show (q.map Entry.door).Nodup
    rw [hq]
    split <;> simp
  · rw [hm e he, one_door]
    exact ⟨by decide, hp⟩
  · cases List.mem_singleton.1 hp'
    rw [one_door]
    refine ⟨hp, ?_⟩
    show _ ↔ (q.find? _).isSome = true
    cases q with
    | nil => simpa using hq
    | cons e q =>
      have h1 := hm e (List.mem_cons_self ..)
      by_cases h : r.agreement = .queued
      · simp [h, h1]
      · simp [h] at hq

theorem site_clockInv : ClockInv site := by
  unfold ClockInv
  decide +kernel

end Sys2Proof.Tests
end

