-- ==== Sys2Proof/Tests/Slice0.lean ====
section
/-! SUPPORT. The model's own tests: ill-formed commands, frames written out byte by byte, the manual's worked
cases, and one small step for the commands. Every expected value is the manual's, or is worked by hand from
its tables; the section or rule is named beside each. -/

namespace Sys2Proof.Tests

/- One proof at a time: each is a kernel evaluation, and many at once ask for a thread each. -/
set_option Elab.async false

open Sys2Proof Sys2Proof.Machine

/-- The state that a command leaves; the state itself where it stops. -/
def run (i : Instr) (s : State) : State :=
  match exec i s with
  | .next t => t
  | _ => s

/-- The newest answer. -/
def lastAnswer (s : State) : Option Answer := s.answers.getLast?

/-- The newest notice. -/
def lastNotice (s : State) : Option Notice := s.notices.getLast?.map NumberedNotice.notice

/-! ### Well-formedness: one ill-formed term for each check -/

theorem test_wf_takes_good_commands :
    Instr.isWellFormed (.powerOn 15 true) = true ∧
    Instr.isWellFormed (.release ⟨255, 65535, 255, 65535, 255⟩) = true ∧
    Instr.isWellFormed (.setTime 255 65535 255) = true ∧
    Instr.isWellFormed (.loadDoor 255 ⟨65535, 255, 255, 255, 255, 255, 255, 255, 255⟩) = true ∧
    Instr.isWellFormed (.loadZone 255 ⟨255, 255, 255, 255, 255, 255, 255, 255⟩) = true ∧
    Instr.isWellFormed (.loadWindow 255 ⟨255, 255, 255, 65535, 65535, 255, 255, 255⟩) = true ∧
    Instr.isWellFormed (.loadTrunk 255 ⟨255, 255, 255, 255, 255, 255, 255⟩) = true ∧
    Instr.isWellFormed (.waitCloseDue 503) = true ∧ Instr.isWellFormed (.dueArriving 7) = true := by decide

theorem test_wf_refuses_events :
    Instr.isWellFormed (.powerOn 16 true) = false ∧
    Instr.isWellFormed (.selectNextTransaction 8) = false ∧
    Instr.isWellFormed (.replyReceived 8 []) = false ∧
    Instr.isWellFormed (.replyWindowClose 8) = false ∧
    Instr.isWellFormed (.broadcastEnd 8) = false ∧
    Instr.isWellFormed (.abortTrailerSent 8) = false ∧
    Instr.isWellFormed (.actuationLimit 504) = false ∧
    Instr.isWellFormed (.waitCloseDue 504) = false ∧
    Instr.isWellFormed (.supplySample 8 0) = false ∧
    Instr.isWellFormed (.holdAsserted 8) = false ∧
    Instr.isWellFormed (.holdNegated 8) = false ∧
    Instr.isWellFormed (.secondMasterFrame 8 []) = false ∧
    Instr.isWellFormed (.snoopedReply 8 []) = false ∧
    Instr.isWellFormed (.dueArriving 8) = false := by decide

theorem test_wf_refuses_misnamed_frames :
    Instr.isWellFormed (.unknownFrameKind 256 0) = false ∧
    Instr.isWellFormed (.unknownFrameKind 0 256) = false ∧
    Instr.isWellFormed (.unknownFrameKind 0 1) = false ∧
    Instr.isWellFormed (.unknownFrameKind 0 3) = false ∧
    Instr.isWellFormed (.unknownRequestCode 256 []) = false ∧
    Instr.isWellFormed (.unknownRequestCode 0 (List.replicate 49 0)) = false ∧
    Instr.isWellFormed (.unknownRequestCode 0 [0x11#8]) = false ∧
    Instr.isWellFormed (.doorCommandInvalid 256 []) = false ∧
    Instr.isWellFormed (.doorCommandInvalid 0 (List.replicate 49 0)) = false ∧
    Instr.isWellFormed (.doorCommandInvalid 0 [0#8, 0#8, 1#8, 0#8, 0#8, 0#8, 0#8]) = false := by decide

theorem test_wf_refuses_door_commands :
    Instr.isWellFormed (.release ⟨256, 0, 0, 0, 0⟩) = false ∧
    Instr.isWellFormed (.lock ⟨0, 65536, 0, 0, 0⟩) = false ∧
    Instr.isWellFormed (.pulse ⟨0, 0, 256, 0, 0⟩) = false ∧
    Instr.isWellFormed (.query ⟨0, 0, 0, 65536, 0⟩) = false ∧
    Instr.isWellFormed (.cancelOverride ⟨0, 0, 0, 0, 256⟩) = false := by decide

theorem test_wf_refuses_tags :
    [Instr.readStatus 256, .clearResync 256, .linkReset 256, .saveSettings 256, .setTime 256 0 0,
      .readTime 256, .loadDoor 256 ⟨0, 0, 0, 0, 0, 0, 0, 0, 0⟩, .readDoor 256 0, .listHeldOut 256 0,
      .ackAlarm 256 0 0, .loadZone 256 ⟨0, 0, 0, 0, 0, 0, 0, 0⟩, .readZone 256 0, .zoneSweepPause 256 0,
      .zoneSweepResume 256 0, .zoneSweepCancel 256 0, .zoneSweepResweep 256 0, .loadClass 256 0 0 0,
      .readClass 256 0, .loadWindow 256 ⟨0, 0, 0, 0, 0, 0, 0, 0⟩, .deleteWindow 256 0, .readWindow 256 0,
      .selectPlan 256 0, .setBatchGap 256 0, .loadTrunk 256 ⟨0, 0, 0, 0, 0, 0, 0⟩, .readTrunk 256 0,
      .readRoster 256 0 0, .resetTrunk 256 0, .clearFire 256].all (fun i => !i.isWellFormed) = true := by
  decide

theorem test_wf_refuses_operands :
    [Instr.setTime 0 65536 0, .setTime 0 0 256, .readDoor 0 65536, .listHeldOut 0 65536,
      .ackAlarm 0 65536 0, .ackAlarm 0 0 256, .readZone 0 256, .zoneSweepPause 0 256,
      .zoneSweepResume 0 256, .zoneSweepCancel 0 256, .zoneSweepResweep 0 256, .loadClass 0 256 0 0,
      .loadClass 0 0 256 0, .loadClass 0 0 0 256, .readClass 0 256, .deleteWindow 0 256,
      .readWindow 0 256, .selectPlan 0 256, .setBatchGap 0 256, .readTrunk 0 256, .readRoster 0 256 0,
      .readRoster 0 0 256, .resetTrunk 0 256].all (fun i => !i.isWellFormed) = true := by decide

theorem test_wf_refuses_load_door_fields :
    [LoadDoorReq.mk 65536 0 0 0 0 0 0 0 0, ⟨0, 256, 0, 0, 0, 0, 0, 0, 0⟩, ⟨0, 0, 256, 0, 0, 0, 0, 0, 0⟩,
      ⟨0, 0, 0, 256, 0, 0, 0, 0, 0⟩, ⟨0, 0, 0, 0, 256, 0, 0, 0, 0⟩, ⟨0, 0, 0, 0, 0, 256, 0, 0, 0⟩,
      ⟨0, 0, 0, 0, 0, 0, 256, 0, 0⟩, ⟨0, 0, 0, 0, 0, 0, 0, 256, 0⟩, ⟨0, 0, 0, 0, 0, 0, 0, 0, 256⟩].all
      (fun r => !(Instr.loadDoor 0 r).isWellFormed) = true := by decide

theorem test_wf_refuses_load_zone_fields :
    [LoadZoneReq.mk 256 0 0 0 0 0 0 0, ⟨0, 256, 0, 0, 0, 0, 0, 0⟩, ⟨0, 0, 256, 0, 0, 0, 0, 0⟩,
      ⟨0, 0, 0, 256, 0, 0, 0, 0⟩, ⟨0, 0, 0, 0, 256, 0, 0, 0⟩, ⟨0, 0, 0, 0, 0, 256, 0, 0⟩,
      ⟨0, 0, 0, 0, 0, 0, 256, 0⟩, ⟨0, 0, 0, 0, 0, 0, 0, 256⟩].all
      (fun r => !(Instr.loadZone 0 r).isWellFormed) = true := by decide

theorem test_wf_refuses_load_window_fields :
    [LoadWindowReq.mk 256 0 0 0 0 0 0 0, ⟨0, 256, 0, 0, 0, 0, 0, 0⟩, ⟨0, 0, 256, 0, 0, 0, 0, 0⟩,
      ⟨0, 0, 0, 65536, 0, 0, 0, 0⟩, ⟨0, 0, 0, 0, 65536, 0, 0, 0⟩, ⟨0, 0, 0, 0, 0, 256, 0, 0⟩,
      ⟨0, 0, 0, 0, 0, 0, 256, 0⟩, ⟨0, 0, 0, 0, 0, 0, 0, 256⟩].all
      (fun r => !(Instr.loadWindow 0 r).isWellFormed) = true := by decide

theorem test_wf_refuses_load_trunk_fields :
    [LoadTrunkReq.mk 256 0 0 0 0 0 0, ⟨0, 256, 0, 0, 0, 0, 0⟩, ⟨0, 0, 256, 0, 0, 0, 0⟩,
      ⟨0, 0, 0, 256, 0, 0, 0⟩, ⟨0, 0, 0, 0, 256, 0, 0⟩, ⟨0, 0, 0, 0, 0, 256, 0⟩,
      ⟨0, 0, 0, 0, 0, 0, 256⟩].all (fun r => !(Instr.loadTrunk 0 r).isWellFormed) = true := by decide

/-! ### Frames written out from the layouts (R171, R186, R187) -/

/-- The usual check value of this CRC over the digits 1 to 9. -/
theorem test_crc_check_value :
    crc16 [0x31#8, 0x32#8, 0x33#8, 0x34#8, 0x35#8, 0x36#8, 0x37#8, 0x38#8, 0x39#8] = 0x29B1#16 := by
  decide +kernel

/-- R186's example: READ TIME to unit 3 with tag 0x7E, the tag sent as 0x7D 0x5E, nine bytes or ten. -/
theorem test_read_time_line :
    (siteLine 3 3 0x7E [0x11#8]).take 7 = [0x7E#8, 0x03#8, 0x03#8, 0x7D#8, 0x5E#8, 0x01#8, 0x11#8] ∧
    ((siteLine 3 3 0x7E [0x11#8]).length = 9 ∨ (siteLine 3 3 0x7E [0x11#8]).length = 10) := by decide +kernel

theorem test_written_frames :
    commandOf 3 0x7E [0x11#8] = .readTime 0x7E ∧
    commandOf 1 9 [0x01#8, 0x5E#8, 0x01#8, 0x01#8, 0x00#8, 0x2D#8, 0x00#8] =
      .release ⟨9, 350, 1, 45, 0⟩ ∧
    commandOf 3 1 [0x10#8, 0x0F#8, 0xB4#8, 0x05#8] = .setTime 1 4020 5 ∧
    commandOf 3 2 [0x2A#8, 0xFF#8, 0x03#8] = .zoneSweepResweep 2 255 ∧
    commandOf 3 2 [0x4A#8, 0x07#8, 0x01#8] = .readRoster 2 7 1 ∧
    commandOf 2 5 [] = .unknownFrameKind 5 2 := by decide +kernel

/-- A frame for another unit, and one with a wrong check, are discarded (R171, R172). -/
theorem test_discarded_frames :
    siteCommand 3 (withCheck [0x03#8, 0x03#8, 0x01#8, 0x01#8, 0x11#8]) = some (.readTime 1) ∧
    siteCommand 2 (withCheck [0x03#8, 0x03#8, 0x01#8, 0x01#8, 0x11#8]) = none ∧
    siteCommand 3 [0x03#8, 0x03#8, 0x01#8, 0x01#8, 0x11#8, 0x00#8, 0x00#8] = none := by decide +kernel

/-- R101: six bytes without a body, seven for RATE and PULSE, ten for a STATUS reply. -/
theorem test_trunk_frame_lengths :
    (TrunkCommand.line (.roll 1)).length = 6 ∧ (TrunkCommand.line (.rate .r38400)).length = 7 ∧
    (TrunkCommand.line (.pulse 5 8)).length = 7 ∧
    (Status.line false 5 ⟨3, .r19200, .thrown, .closed, false, .started⟩).length = 10 := by decide +kernel

/-- R103: an inverted pair's sync byte is heard as 0x58. -/
theorem test_inverted_status :
    (Status.line true 5 ⟨3, .r19200, .jammed, .opened, true, .started⟩).head? = some 0x58#8 ∧
    acceptStatus .normal 5 (Status.line true 5 ⟨3, .r19200, .jammed, .opened, true, .started⟩) = none := by
  decide +kernel

/-- R182, R186: a DOOR STATUS notice is 15 bytes before escaping. -/
theorem test_door_status_line :
    (NumberedNotice.line 1
      ⟨4, .doorStatus 118 .withdrawn .opened (some .locked) (.heldOut .doorOpen) ⟨true, true, false⟩
        .secondMaster⟩).take 13 =
      [0x7E#8, 0x01#8, 0x05#8, 0x04#8, 0x08#8, 0x01#8, 0x00#8, 0x76#8, 0x11#8, 0x02#8, 0x01#8, 0x03#8,
        0x01#8] := by decide +kernel

/-! ### The week clock (section 2.8, R26 to R34) -/

/-- A part whose Evaluator is WAITING, so that no evaluation follows. -/
def still : State := { base with evaluator := .waiting }

/-- The clock at a time, with E. -/
def at_ (minute second tenths e : Nat) : State :=
  { still with minute := minute, second := second, tenths := tenths, evaluated := some e }

theorem test_set_time_forward :
    (let s := run (.setTime 1 4020 5) (at_ 4019 20 4 4019);
      (s.minute, s.second, s.tenths, s.evaluated, lastAnswer s) =
        (4020, 5, 0, some 4020, some (.mgmt 1 0x10 .ok [.n1 0, .n2 4020, .n1 5]))) := by decide +kernel

theorem test_set_time_backward :
    (let s := run (.setTime 1 4019 50) (at_ 4020 40 0 4020);
      (s.minute, s.second, s.evaluated) = (4019, 50, some 4020) ∧
      (run .minuteBoundary s).evaluated = some 4020 ∧
      (run .minuteBoundary (run .minuteBoundary s)).evaluated = some 4021) := by decide +kernel

theorem test_set_time_classes :
    (at_ 10079 30 0 10079).classify 0 20 = .forward ∧ (at_ 390 0 0 390).classify 450 0 = .jump ∧
    (at_ 4019 20 4 4019).classify 4020 5 = .forward ∧ (at_ 4020 40 0 4020).classify 4019 50 = .held := by
  decide +kernel

theorem test_minute_boundary_wraps :
    (let s := run .minuteBoundary (at_ 10079 59 9 10079);
      (s.minute, s.second, s.tenths, s.evaluated) = (0, 0, 0, some 0)) := by decide +kernel

theorem test_read_time :
    lastAnswer (run (.readTime 7) (at_ 4019 50 3 4020)) =
      some (.mgmt 7 0x11 .ok [.n1 1, .n2 4019, .n1 50, .n1 3, .n4 1000, .n2 4020, .n1 1]) := by
  decide +kernel

theorem test_catch_up :
    ({ base with count := 1073741825#32 } : State).catchUp 0#32 = 1#32 ∧
    ({ base with count := 1073741824#32 } : State).catchUp 0#32 = 0#32 := by decide +kernel

theorem test_power_on_with_blank_memory :
    (run (.powerOn 15 true) { State.reset with powered := false, notices := [] }).notices = [⟨0, .clockUnset⟩] ∧
    (run (.powerOn 15 true) { at_ 100 7 3 90 with backupValid := true }).clock = .running ∧
    (run (.powerOn 15 true) { at_ 100 7 3 90 with backupValid := true }).second = 7 ∧
    (run (.powerOn 15 true) { at_ 100 7 3 90 with backupValid := true }).evaluated = none := by
  decide +kernel

theorem test_crystal_and_backup :
    (run .crystalStop { base with backupValid := true }).backupValid = false ∧
    (run .crystalStop base).clock = .running ∧ (run .crystalStop base).isTicking = false ∧
    (run .crystalRestart (run .crystalStop base)).isTicking = true ∧
    (run .backupSupplyLow { base with backupValid := true }).backupValid = false ∧
    (run .powerCut (run .crystalRestart (run .crystalStop base))).isTicking = true := by decide +kernel

/-! ### Windows (R40, R41, R46, R47) -/

/-- A window of zone 12 under plan 1. -/
def window12 (start length : Nat) (single : Bool) : Window :=
  ⟨some 12, 2#8, start, length, .opened, 2, single, false⟩

theorem test_time_test :
    [3315, 4019, 4020].map (fun m => (window12 3315 705 false).matches m) = [true, true, false] ∧
    [10079, 30, 59, 60, 9000, 10019].map (fun m => (window12 10020 120 false).matches m) =
      [true, true, true, false, false, false] := by decide

/-- Section 3.7: the drill of slot 9 beats slot 3, and zone 12 falls to its default at 4020. -/
theorem test_scheduled_state :
    (let s : State := { base with plan := 1, windows := ((base.windows.set 3 (some (window12 3315 705 false))).set
        9 (some ⟨none, 6#8, 3480, 30, .secure, 5, false, false⟩)) };
      [3479, 3490, 3510, 4019, 4020].map (s.scheduledAt 12) =
        [some .opened, some .secure, some .opened, some .opened, some .secure]) := by decide +kernel

theorem test_single_shot :
    (window12 3315 705 true).singleShot 1 3400 = some { window12 3315 705 true with matched := true } ∧
    (window12 3315 705 true).singleShot 2 3400 = some (window12 3315 705 true) ∧
    (window12 3315 705 true).singleShot 1 5000 = some (window12 3315 705 true) ∧
    ({ window12 3315 705 true with matched := true } : Window).singleShot 2 4020 = none := by decide

theorem test_load_and_delete_window :
    (run (.loadWindow 1 ⟨127, 255, 2, 10079, 10080, 1, 7, 1⟩) still).windows.getD 127 none =
      some ⟨none, 2#8, 10079, 10080, .opened, 7, true, false⟩ ∧
    lastAnswer (run (.loadWindow 1 ⟨127, 64, 2, 0, 1, 1, 7, 1⟩) still) = some (.mgmt 1 0x38 .badValue []) ∧
    lastAnswer (run (.deleteWindow 1 128) still) = some (.mgmt 1 0x39 .badIndex []) ∧
    lastAnswer (run (.readWindow 2 0) still) = some (.mgmt 2 0x3A .ok
      [.n1 0, .absent 1, .absent 1, .absent 2, .absent 2, .absent 1, .absent 1, .absent 1, .absent 1]) := by
  decide +kernel

theorem test_select_plan :
    lastAnswer (run (.selectPlan 3 7) still) = some (.mgmt 3 0x3B .ok [.n1 0, .n1 7]) ∧
    lastAnswer (run (.selectPlan 3 8) still) = some (.mgmt 3 0x3B .badValue []) := by decide +kernel

/-! ### Batches (section 4.10, R58) -/

theorem test_lockup_offsets :
    batchOffsets 20 0 [(20, [214, 217, 230]), (5, [240, 241, 242, 244]), (0, [12, 13])] =
      [(214, 0), (217, 20), (230, 40), (240, 80), (241, 85), (242, 90), (244, 95), (12, 120), (13, 120)] := by
  decide

/-- R58: position 327 of a step of 200 is 65,400, and position 328 saturates. -/
theorem test_offsets_saturate :
    saturate (0 + saturate (327 * 200)) = 65400 ∧ saturate (0 + saturate (328 * 200)) = 65535 := by
  decide +kernel

theorem test_zone_order :
    orderZones false (fun z => if z = 3 then 30 else if z = 12 then 10 else 20) [3, 12, 14] = [12, 14, 3] ∧
    orderZones true (fun z => if z = 3 then 30 else if z = 12 then 10 else 20) [3, 12, 14] = [3, 14, 12] ∧
    orderZones true (fun _ => 0) [3, 12, 14] = [3, 12, 14] := by decide

theorem test_set_batch_gap :
    (run (.setBatchGap 1 255) base).gap = 255 ∧
    lastAnswer (run (.setBatchGap 1 0) base) = some (.mgmt 1 0x40 .ok [.n1 20, .n1 0]) := by decide +kernel

/-! ### The sweep queue (chapter 05) -/

/-- A zone's entry on door 350, PENDING, of an origin, due at a time. -/
def waiting (o : Origin) (due : Tenths) : Entry := ⟨350, .drive .locked, o, due, 0, .pending⟩

/-- The pause through a rehearsal: the theatre is the zone of door 350, paused at 5,000. -/
def paused (count : Tenths) (e : Entry) : State :=
  { site.onZone 63 (fun z => { z with paused := some 5000#32 }) with count := count, queue := [e] }

/-- The dues after a RESUME. -/
def resumed (count : Tenths) (e : Entry) : List Tenths :=
  (run (.zoneSweepResume 1 63) (paused count e)).queue.map Entry.due

theorem test_resume_moves_dues :
    resumed 8000#32 (waiting .schedule 5100#32) = [8100#32] ∧
    resumed 8000#32 (waiting .schedule 5120#32) = [8120#32] ∧
    resumed 8000#32 (waiting .override 5000#32) = [5000#32] ∧
    resumed 65000#32 (waiting .schedule 75000#32) = [130535#32] ∧
    resumed 65000#32 (waiting .schedule 6000#32) = [66000#32] := by decide +kernel

theorem test_pause_counts :
    lastAnswer (run (.zoneSweepPause 1 255) (paused 8000#32 (waiting .schedule 0#32))) =
      some (.mgmt 1 0x2A .ok [.n2 63]) ∧
    ((run (.zoneSweepPause 1 255) (paused 8000#32 (waiting .schedule 0#32))).zone 63).paused =
      some 5000#32 := by decide +kernel

theorem test_cancel_defers :
    (let s := run (.zoneSweepCancel 1 0) site;
      s.queue.map Entry.door = [12] ∧ (s.door 11).agreement = .deferred ∧
      lastAnswer s = some (.mgmt 1 0x2A .ok [.n2 2])) := by decide +kernel

theorem test_resweep_takes_held_out :
    (let s := run (.zoneSweepResweep 1 255) site;
      (s.entryOf 14).map Entry.origin = some .resweep ∧ (s.zone 1).tallies.enqueued = 1 ∧
      lastAnswer s = some (.mgmt 1 0x2A .ok [.n2 1])) := by decide +kernel

/-- R79's table. -/
theorem test_effective_budget :
    [(40, Supply.normal), (40, .low), (15, .low), (1, .low)].map (fun p =>
      Trunk.effectiveBudget { Trunk.blank { TrunkConfig.default_ with budget := p.1 } false with
        supply := p.2 }) = [40, 20, 7, 1] := by decide

/-- Section 5.8: a PULSE of 8 s of a class of time 10 has its limit 100 tenths after issue. -/
theorem test_pulse_limit :
    (let s : State := { site with
        count := 2000001#32, classes := site.classes.set 0 ⟨8, 10⟩,
        queue := [⟨16, .pulse 8, .pulse, 2000000#32, 0, .pending⟩] };
      ((run (.selectNextTransaction 0) s).entryOf 16).map Entry.phase =
        some (.issued ⟨8, 2000001#32, 2000101#32, none, false⟩) ∧
      (run (.selectNextTransaction 0) s).reserved 0 = 8) := by
  decide +kernel

/-- R85: the limit of door 12's THROW has passed: a jam of a zone with retry 15 s. -/
theorem test_actuation_limit_jams :
    ((run (.actuationLimit 12) site).entryOf 12).map (fun e => (e.due, e.attempts, e.phase)) =
      some (1150#32, 1, .pending) := by decide +kernel

theorem test_wait_close_due :
    ((run (.waitCloseDue 13) site).entryOf 13).map (fun e => (e.due, e.phase)) =
      some (1000#32, .pending) := by decide +kernel

/-! ### The trunks (chapters 06 and 07) -/

/-- The site with a transaction in its reply window on TC0. -/
def onLine (c : TrunkCommand) (p : Purpose) : State :=
  site.onTrunk 0 fun r =>
    { r with ownership := .driving, transaction := some ⟨c, p, .r19200, .window, false⟩ }

theorem test_started_counts :
    (let s := run (.replyReceived 0
        (Status.line false 3 ⟨3, .r19200, .moving, .closed, false, .started⟩))
        (onLine (.throw 3) (.command 12));
      (s.door 12).bolt = .moving ∧ (s.entryOf 12).map Entry.attempts = some 2 ∧
      (s.trunk 0).ownership = .idleOwner ∧
      ((s.trunk 0).node 3).bind Node.followUpDue = some 1005#32) := by decide +kernel

theorem test_refused_open_waits :
    (let s := run (.replyReceived 0
        (Status.line false 3 ⟨3, .r19200, .withdrawn, .opened, false, .refusedOpen⟩))
        (onLine (.throw 3) (.command 12));
      (s.entryOf 12).map (fun e => (e.attempts, e.due, e.phase)) = some (2, 1150#32, .waitClose) ∧
      ((s.trunk 0).node 3).bind Node.closeWatchDue = some 1020#32) := by decide +kernel

theorem test_missed_command :
    (let s := run (.replyWindowClose 0) (onLine (.throw 3) (.command 12));
      (s.entryOf 12).map (fun e => (e.attempts, e.due, e.phase)) = some (1, 1010#32, .pending) ∧
      ((s.trunk 0).node 3).map Node.missed = some 1) := by decide +kernel

theorem test_third_miss_goes_offline :
    (let s := run (.replyWindowClose 0)
        ((onLine (.poll 1) .routine).onTrunk 0 (Trunk.onNode 1 fun n => { n with missed := 2 }));
      ((s.trunk 0).node 1).map (fun n => (n.online, n.recoveryDue)) = some (false, some 1600#32) ∧
      (s.door 10).agreement = .unknown ∧ s.notices.length = 2) := by decide +kernel

/-- R106: after the rate reset broadcast at 76800 comes the one at 38400. -/
theorem test_broadcast_end :
    (let s := run (.broadcastEnd 2) (site.onTrunk 2 fun r =>
        { r with rollStep := .rateReset 0, transaction := some ⟨.rate .r9600, .rateReset, .r76800, .frame, false⟩ });
      (s.trunk 2).transaction = some ⟨.rate .r9600, .rateReset, .r38400, .frame, false⟩) := by
  decide +kernel

theorem test_abort_trailer :
    (let s := run (.abortTrailerSent 0) ((onLine (.throw 3) (.command 12)).onTrunk 0 fun r =>
        { r with transaction := r.transaction.map fun x => { x with phase := .trailer } });
      (s.entryOf 12).map (fun e => (e.attempts, e.due, e.phase)) = some (1, 900#32, .pending) ∧
      s.reserved 0 = 0 ∧ (s.trunk 0).transaction = none) := by decide +kernel

/-- The sag of section 6.7: 20.9 V, 21.3 V, 21.4 V, 21.5 V at a threshold of 21.0 V. -/
theorem test_supply_sag :
    [[209], [209, 213], [209, 214], [209, 215]].map (fun vs =>
      ((vs.foldl (fun s v => run (.supplySample 0 v) s) site).trunk 0).supply) =
      [.low, .low, .low, .normal] := by decide +kernel

theorem test_hold_negated_regains :
    (let s := run (.holdNegated 1) site;
      (s.trunk 1).ownership = .idleOwner ∧ (s.trunk 1).request = false ∧
      lastNotice s = some (.trunk 1 .owned)) := by decide +kernel

theorem test_hold_in_mode_none :
    ((run (.holdAsserted 0) site).trunk 0).ownership = .idleOwner ∧
    ((run (.holdAsserted 0) site).trunk 0).hold = true := by decide +kernel

/-- Section 7.3: a second master's WITHDRAW, and the reply it draws. -/
theorem test_second_master :
    (let s := run (.secondMasterFrame 1 (TrunkCommand.line (.withdraw 1))) site;
      (s.door 13).lastBy = .secondMaster ∧ (s.trunk 1).snoops = [⟨2, false⟩, ⟨1, false⟩] ∧
      (run (.snoopedReply 1 (Status.line false 1 ⟨3, .r19200, .thrown, .closed, false, .none_⟩)) s).entryOf 13 =
        none) := by decide +kernel

/-- R133: each second-master frame has its own 50 ms; a tick ends what the tick before it left. -/
theorem test_snooped_replies_in_their_own_time :
    (let s := run (.secondMasterFrame 1 (TrunkCommand.line (.poll 1))) site;
      let t := run (.snoopedReply 1 (Status.line false 2 ⟨3, .r19200, .thrown, .closed, false, .none_⟩)) s;
      (t.door 14).bolt = .thrown ∧ (t.trunk 1).snoops = [⟨1, false⟩] ∧
      (t.trunk 1).tick.snoops = [⟨1, true⟩] ∧ (t.trunk 1).tick.tick.snoops = []) := by decide +kernel

theorem test_due_arriving_raises_req :
    ((run (.dueArriving 1) site).trunk 1).request = false ∧
    ((run (.dueArriving 1) { site with count := 2000#32 }).trunk 1).request = true := by decide +kernel

theorem test_load_trunk_checks :
    lastAnswer (run (.loadTrunk 1 ⟨8, 1, 40, 2, 5, 15, 0⟩) site) = some (.mgmt 1 0x48 .badIndex []) ∧
    lastAnswer (run (.loadTrunk 1 ⟨0, 1, 40, 7, 5, 15, 0⟩) site) = some (.mgmt 1 0x48 .badValue []) ∧
    lastAnswer (run (.loadTrunk 1 ⟨0, 1, 41, 2, 5, 15, 0⟩) site) = some (.mgmt 1 0x48 .notNow []) := by
  decide +kernel

theorem test_read_trunk :
    lastAnswer (run (.readTrunk 1 0) site) = some (.mgmt 1 0x49 .ok
      [.n1 1, .n1 40, .n1 2, .n1 5, .n1 15, .n1 0, .n1 2, .n1 1, .n1 0, .n1 1, .n2 4, .n2 4, .n1 4, .n1 40,
        .n1 0, .n2 0, .n1 1]) := by decide +kernel

theorem test_read_roster :
    lastAnswer (run (.readRoster 1 0 3) site) = some (.mgmt 1 0x4A .ok
      [.n1 2, .n1 2, .n1 3, .n1 3, .n1 1, .n1 5, .n1 3, .n1 1, .n1 0]) ∧
    lastAnswer (run (.readRoster 1 0 64) site) = some (.mgmt 1 0x4A .badValue []) := by decide +kernel

theorem test_reset_trunk :
    (let s := run (.resetTrunk 1 0) site;
      s.queue.map Entry.door = [13] ∧ (s.door 11).agreement = .unknown ∧ (s.door 14).agreement ≠ .unknown ∧
      (s.trunk 0).transaction = some ⟨.rate .r9600, .rateReset, .r76800, .frame, false⟩) ∧
    lastAnswer (run (.resetTrunk 1 7) site) = some (.mgmt 1 0x4B .notNow []) := by decide +kernel

/-! ### Fire (section 7.3, R138 to R141) -/

theorem test_fire_asserted :
    (let s := run .fireAsserted { site with fireCount := 6 };
      (s.fireLatch, s.fireLine, s.fireCount) = (true, true, 7) ∧ (s.door 15).target = some .released ∧
      s.entryOf 15 = none ∧ (s.entryOf 16).map Entry.origin = some .fire) := by decide +kernel

theorem test_clear_fire :
    lastAnswer (run (.clearFire 1) { site with fireLatch := true, fireLine := true, fireCount := 7 }) =
      some (.mgmt 1 0x50 .fireStillActive [.n1 1, .n1 0, .n2 8]) ∧
    lastAnswer (run (.clearFire 1) (run .fireNegated
      { site with fireLatch := true, fireLine := true, fireCount := 9 })) =
      some (.mgmt 1 0x50 .ok [.n1 0, .n1 1, .n2 9]) := by decide +kernel

/-! ### Door commands (section 8.6, R146) -/

/-- Door 350 of section 8.6 in a zone of floor 1. -/
def music : State := site.onZone 63 fun z => { z with floor := 1 }

/-- The result of a door answer. -/
def doorResult : Option Answer → Option DoorResult
  | some (.door _ _ _ r _ _) => some r
  | _ => none

theorem test_release_and_lock :
    doorResult (lastAnswer (run (.release ⟨1, 350, 0, 45, 0⟩) music)) = some .belowFloor ∧
    (let s := run (.release ⟨2, 350, 1, 45, 0⟩) music;
      doorResult (lastAnswer s) = some .accepted ∧ (s.door 350).override = some ⟨.released, 1, .minutes 45⟩ ∧
      (s.entryOf 350).map (fun e => (e.target, e.origin, e.due)) =
        some (.drive .released, .override, 1000#32) ∧
      ((run (.lock ⟨3, 350, 2, 0, 0⟩) s).door 350).override = some ⟨.locked, 2, .untilTransition⟩) := by
  decide +kernel

theorem test_pulse :
    doorResult (lastAnswer (run (.pulse ⟨1, 350, 1, 0, 8⟩) music)) = some .accepted ∧
    (let s := run (.pulse ⟨1, 350, 1, 0, 8⟩) music;
      doorResult (lastAnswer (run (.pulse ⟨2, 350, 1, 0, 8⟩) s)) = some .doorBusy) ∧
    doorResult (lastAnswer (run (.pulse ⟨1, 15, 3, 0, 8⟩) music)) = some .unreachable := by decide +kernel

theorem test_cancel_override :
    doorResult (lastAnswer (run (.cancelOverride ⟨1, 350, 1, 0, 0⟩) music)) = some .noOverride ∧
    doorResult (lastAnswer (run (.cancelOverride ⟨1, 16, 1, 0, 0⟩) music)) = some .belowFloor ∧
    ((run (.cancelOverride ⟨1, 16, 2, 0, 0⟩) music).door 16).override = none := by decide +kernel

theorem test_query_and_invalid :
    lastAnswer (run (.query ⟨9, 350, 1, 0, 0⟩) music) = some (.door 9 350 4 .accepted
      (some ⟨.thrown, .closed, some .locked, .inStep, none⟩) (some ⟨false, .empty, .part⟩)) ∧
    lastAnswer (run (.doorCommandInvalid 3 [0x01#8]) music) =
      some (.door 3 0xFFFF 0xFF .badField none none) := by decide +kernel

theorem test_starting :
    doorResult (lastAnswer (run (.query ⟨9, 350, 1, 0, 0⟩) State.reset)) = some .starting := by decide +kernel

/-! ### The Door Map's requests (chapters 01 and 09) -/

theorem test_load_door_checks :
    lastAnswer (run (.loadDoor 1 ⟨11, 0, 0, 0, 0, 0, 0, 0, 0⟩) site) = some (.mgmt 1 0x20 .inUse []) ∧
    lastAnswer (run (.loadDoor 1 ⟨20, 1, 7, 63, 0, 0, 0, 0, 0⟩) site) = some (.mgmt 1 0x20 .conflict []) ∧
    lastAnswer (run (.loadDoor 1 ⟨20, 1, 7, 64, 0, 0, 0, 0, 0⟩) site) = some (.mgmt 1 0x20 .badValue []) := by
  decide +kernel

/-- R8, R160: watched turned from no to yes on a door thrown and shut takes a snapshot at once. -/
theorem test_load_door_watched :
    ((run (.loadDoor 1 ⟨350, 1, 7, 63, 63, 0, 0, 0, 1⟩) site).door 350).snapshot =
      some ⟨.thrown, .closed⟩ ∧
    ((run (.loadDoor 1 ⟨350, 1, 7, 62, 63, 0, 0, 0, 1⟩) site).door 350).agreement = .unknown := by
  decide +kernel

theorem test_read_door_and_list :
    lastAnswer (run (.readDoor 1 14) site) = some (.mgmt 1 0x21 .ok
      [.n1 1, .n1 1, .n1 2, .n1 1, .n1 0, .n1 0, .n1 0, .n1 0, .n1 0, .n2 0, .n1 0x10, .n1 0, .n1 0x02,
        .n1 1, .absent 1, .n1 0, .n1 0]) ∧
    lastAnswer (run (.listHeldOut 1 0) site) = some (.mgmt 1 0x22 .ok [.n1 1, .n2 14, .n1 0]) := by
  decide +kernel

theorem test_ack_alarm :
    (let s := site.onDoor 350 fun r => { r with alarms := ⟨true, true, false⟩ };
      lastAnswer (run (.ackAlarm 1 350 7) s) = some (.mgmt 1 0x23 .ok [.n2 1]) ∧
      ((run (.ackAlarm 1 350 1) s).door 350).alarms = ⟨false, true, false⟩ ∧
      lastAnswer (run (.ackAlarm 1 350 0) s) = some (.mgmt 1 0x23 .badValue [])) := by decide +kernel

/-- R4: a retry interval below 5 is stored as 5, an attempt limit of 0 as 1. -/
theorem test_load_zone_clamps :
    (let s := run (.loadZone 1 ⟨9, 1, 255, 3, 255, 4, 0, 1⟩) still;
      (s.zone 9).toZoneConfig = ⟨.opened, 255, 3, 255, 5, 1, true⟩ ∧
      (lastAnswer (run (.readZone 2 9) s)).isSome = true ∧
      lastAnswer (run (.loadZone 1 ⟨9, 1, 255, 4, 255, 4, 0, 1⟩) still) =
        some (.mgmt 1 0x28 .badValue [])) := by decide +kernel

theorem test_load_and_read_class :
    lastAnswer (run (.readClass 2 7) (run (.loadClass 1 7 0 255) base)) =
      some (.mgmt 2 0x31 .ok [.n1 1, .n1 255]) ∧
    lastAnswer (run (.readClass 2 8) base) = some (.mgmt 2 0x31 .badIndex []) := by decide +kernel

/-- Section 9.5: a key withdraws the bolt of a watched door: KEYED, and a CORRECTION due now. -/
theorem test_keyed :
    (let d : Door := { doorIn 0 1 0 false .thrown .inStep with watched := true, snapshot := some ⟨.thrown, .closed⟩ };
      let s := run (.replyReceived 0 (Status.line false 1 ⟨3, .r19200, .withdrawn, .closed, false, .none_⟩))
        ((onLine (.poll 1) .routine).setDoor 10 d);
      (s.door 10).alarms = ⟨false, true, false⟩ ∧ (s.door 10).snapshot = none ∧
      (s.entryOf 10).map (fun e => (e.origin, e.due)) = some (.correction, 1000#32) ∧
      s.notices.length = 1) := by decide +kernel

/-! ### The site link and the stored settings (chapters 10 and 11) -/

theorem test_misformed_requests :
    lastAnswer (run (.unknownFrameKind 5 2) base) = some (.mgmt 5 0 .badRequest []) ∧
    lastAnswer (run (.unknownRequestCode 6 []) base) = some (.mgmt 6 0 .badRequest []) ∧
    lastAnswer (run (.unknownRequestCode 7 [0x11#8, 0x00#8]) base) = some (.mgmt 7 0x11 .badRequest []) ∧
    lastAnswer (run (.unknownRequestCode 8 [0x2A#8, 0x00#8, 0x04#8]) base) =
      some (.mgmt 8 0x2A .badValue []) := by decide +kernel

/-- R175: a notice follows four answers in a row. -/
theorem test_transmitter :
    (let s : State := { base with
        answers := [.mgmt 1 1 .ok []], notices := [⟨4, .clockUnset⟩], answersInRow := 3 };
      (run .transmitComplete s).answersInRow = 4 ∧ (run .transmitComplete s).answers = [] ∧
      (run .transmitComplete { s with answersInRow := 4 }).notices = [] ∧
      (run .transmitComplete { s with answersInRow := 4 }).sending =
        some (siteLine 15 5 4 [0x06#8, 0x00#8])) := by decide +kernel

theorem test_receiver_events :
    (run .siteFrameTimeout { base with receiver := .inFrame [1#8] false }).receiver = .idle ∧
    (run .frameDiscarded { base with receiver := .inFrame [1#8] false }).receiver = .idle ∧
    (run (.frameAbandoned .newStart) base).receiver = .inFrame [] false ∧
    (run (.frameAbandoned .lengthAbove48) { base with receiver := .inFrame [] false }).receiver = .idle := by
  decide +kernel

theorem test_status_and_resync :
    lastAnswer (run (.clearResync 1) State.reset) = some (.mgmt 1 0x02 .ok [.n1 1, .n2 1, .n1 1]) ∧
    (run (.clearResync 1) State.reset).resync = false ∧
    lastAnswer (run (.readStatus 1) State.reset) = some (.mgmt 1 0x01 .ok
      [.n1 15, .n1 1, .n1 1, .n2 1, .n1 1, .n1 1, .n1 1, .n1 0, .n1 0, .n1 0, .n2 0, .n1 20, .n1 1, .n1 0,
        .n2 0, .n1 0, .n1 0, .n1 0, .n1 0, .n1 0, .n1 0, .n1 0, .n1 0, .n1 0, .n1 0, .n1 0, .n1 0, .n1 0,
        .n1 0, .n1 0, .n1 0]) := by decide +kernel

theorem test_link_reset :
    (let s := run (.linkReset 1) { base with notices := [⟨9, .clockUnset⟩], noticeNumber := 10 };
      (s.notices, s.noticeNumber, s.resync) = ([], 0, true) ∧
      lastAnswer s = some (.mgmt 1 0x03 .ok [])) ∧
    site.forgetAll.queue = [] ∧ (site.forgetAll.door 10).agreement = .unknown := by decide +kernel

/-- R191, R192: the marker is cleared before the first page is written; an unacknowledged page ends the save. -/
theorem test_save_and_failure :
    (let s := run .savePageWritten (run (.saveSettings 9) { base with memory := { base.memory with marker := true } });
      s.memory.marker = false ∧ s.loader = .saving 9 (.page 0) ∧ s.answers = [] ∧
      lastAnswer (run .saveAckTimeout s) = some (.mgmt 9 0x04 .failed []) ∧
      (run .saveAckTimeout s).loader = .idle) := by decide +kernel

/-- R191, R49: page 0 takes door 10 as it is held; door 16 begins in page 1 and stays as stored. Page 1 takes door 16,
and door 10, changed since its page was written, stays as it was stored. -/
theorem test_save_page_records :
    (let s := run .savePageWritten { site with loader := .saving 9 .clearMarker };
      s.memory.image.doors.getD 10 .unmapped = ⟨some ⟨0, 1⟩, 0, 0, false, false, false⟩ ∧
      s.memory.image.doors.getD 16 .unmapped = .unmapped ∧
      (let t := run .savePageWritten (s.setDoor 10 (.blank .unmapped));
        t.memory.image.doors.getD 10 .unmapped = ⟨some ⟨0, 1⟩, 0, 0, false, false, false⟩ ∧
        t.memory.image.doors.getD 16 .unmapped = ⟨some ⟨0, 5⟩, 1, 0, true, false, false⟩)) := by decide +kernel

/-- R189: a memory whose marker is clear is not valid; the default gap is 20; an enabled trunk begins its roll
call. -/
theorem test_loading_defaults :
    Memory.isValid ⟨false, .defaults, 0⟩ = false ∧
    (State.reset.loadTables .defaults).gap = 20 ∧
    ((State.reset.resetTrunk 3 true).trunk 3).transaction =
      some ⟨.rate .r9600, .rateReset, .r76800, .frame, false⟩ := by decide +kernel

theorem test_power_cut :
    (let s := run .powerCut { site with backupValid := true, second := 3 };
      s.powered = false ∧ s.queue = [] ∧ s.second = 3 ∧
      (run (.readTime 1) s).answers = []) := by decide +kernel

/-! ### Doors put aside in step, targets of NONE, resets (R18, R56, R88, R117) -/

/-- Door 14 HELD-OUT JAMMED with its bolt where its target LOCKED wants it (a PULSE over its limit, R86). -/
def siteIdle : State := site.onDoor 14 fun r => { r with bolt := .thrown, agreement := .heldOut .jammed }

theorem test_idle_door_leaves_by_command :
    (let s := run (.lock ⟨1, 14, 0, 0, 0⟩) siteIdle;
      (s.door 14).agreement = .inStep ∧ s.notices = [] ∧ s.queue = siteIdle.queue) ∧
    (let s := run (.zoneSweepResweep 1 1) siteIdle;
      (s.door 14).agreement = .inStep ∧ (s.zone 1).tallies = ⟨0, 0, 0, 0, 0, 1⟩) := by decide +kernel

/-- R18, R22, R158: a RELEASE of door 14, HELD-OUT with its bolt withdrawn, needs no entry: IN-STEP, with a notice
by R22 and with none by R158 (log 50). -/
theorem test_command_to_satisfied_target :
    (let s := site.onDoor 14 fun r => { r with override := some ⟨.released, 0, .untilTransition⟩ };
      ∀ t ∈ [(s.freeQuietly 14, 0), (s.retarget 14 .override true, 1)],
        (t.1.door 14).target = some .released ∧ (t.1.door 14).agreement = .inStep ∧ t.1.queue = site.queue ∧
        t.1.notices.length = t.2) := by decide +kernel

theorem test_restoration_to_no_target :
    (let s := (site.onDoor 12 fun r => { r with target := none }).formBatch .restore [0] [12];
      s.entryOf 12 = none ∧ (s.door 12).agreement = .inStep ∧ (s.zone 0).tallies = ⟨0, 0, 0, 0, 0, 1⟩) := by
  decide +kernel

/-- R87, R88: the aborted THROW of door 12 holds a retarget that the bolt satisfies. -/
theorem test_reset_applies_retarget :
    (let s := (site.putEntry ⟨12, .drive .locked, .schedule, 900#32, 1,
        .issued { attempt with retarget := some (some .released) }⟩).onTrunk 0 fun r =>
          { r with transaction := some ⟨.throw 3, .command 12, .r19200, .frame, false⟩, rate := .r9600 };
      let t := run (.resetTrunk 1 0) s;
      (t.zone 0).tallies = ⟨0, 1, 0, 0, 1, 0⟩ ∧ t.entryOf 12 = none ∧ (t.door 12).agreement = .unknown ∧
      (t.trunk 0).transaction = some ⟨.throw 3, .command 12, .r9600, .trailer, false⟩) := by decide +kernel

theorem test_abort_trailer_bytes :
    TrunkCommand.cut 2 (.rate .r9600) = [0xA7#8, 0x00#8, 0x7F#8, 0x7F#8] ∧
    Transaction.sends ⟨.poll 3, .routine, .r9600, .trailer, false⟩ = [0x7F#8, 0x7F#8] := by decide +kernel

/-- R170: 0x11 with its least significant bit first; a stop bit that reads low is a framing error. -/
theorem test_characters :
    characterOf 0x11#8 = [false, true, false, false, false, true, false, false, false, true] ∧
    readCharacter (characterOf 0x11#8) = some 0x11#8 ∧
    readCharacter [false, true, false, false, false, true, false, false, false, false] = none ∧
    Assembly.receive (.inFrame [] false) (List.replicate 10 false) = (.idle, none) ∧
    siteRate true = 115200 := by decide +kernel

/-! ### Steps and words -/

theorem test_step_takes_the_front :
    step { base with pending := [.fireNegated, .fireAsserted] } =
      exec .fireNegated { base with pending := [.fireAsserted] } := rfl

theorem test_no_word_spells_a_command : State.reset.withFetchWord 8 0x11 = State.reset := rfl

theorem test_no_ninth_trunk :
    exec (.supplySample 8 200) State.reset = .fault .noSuchTrunk ∧
    exec (.waitCloseDue 504) State.reset = .fault .noSuchDoor := ⟨rfl, rfl⟩

end Sys2Proof.Tests
end

