-- ==== Sys2Proof/Tests/Witnesses.lean ====
section
/-! SUPPORT. For every obligation with hypotheses, a state and operands that meet them, one for each clause, at a
boundary of its range where it has one. -/

namespace Sys2Proof.Tests

/- One proof at a time: each is a kernel evaluation, and many at once ask for a thread each. -/
set_option Elab.async false

open Sys2Proof Sys2Proof.Machine

/-- The site with a command in front of its queue. -/
def siteDoing (i : Instr) : State := { site with pending := [i] }

/-- The site with its fire latch set, the line still ASSERTED. -/
def siteAlarm : State := { site with fireLatch := true, fireLine := true, fireCount := 65535 }

def siteOff : State := { site with powered := false }

/-- Eight answers wait. -/
def siteFull : State := { site with answers := List.replicate 8 (.mgmt 1 1 .ok []) }

def siteSaving (k : SaveStep) : State := { site with loader := .saving 255 k }

theorem siteDoing_queueInv (i : Instr) : QueueInv (siteDoing i) := queueInv_congr site_queueInv rfl rfl rfl

theorem site_takes : site.takes := ⟨rfl, by decide +kernel⟩
theorem site_serves : site.serves := ⟨site_takes, rfl⟩

/-! ### The machine and its invariants -/

theorem witness_StepRunsTheFrontCommand : (siteDoing .fireNegated).pending = [Instr.fireNegated] := rfl

theorem witness_EmptyQueueLetsATenthPass :
    (let s : State := { site with second := 59, tenths := 8 };
      s.pending = [] ∧ s.crystal = true ∧ s.clock = .running ∧ s.second ≤ 59 ∧ s.tenths < 9) ∧
    (let s : State := { siteOff with clock := .unset, second := 58, tenths := 9 };
      s.pending = [] ∧ s.crystal = true ∧ s.powered = false ∧ s.second < 59 ∧ s.tenths ≤ 9) ∧
    (let s : State := { site with second := 59, tenths := 9 };
      s.pending = [] ∧ s.crystal = true ∧ s.clock = .running ∧ s.second = 59 ∧ s.tenths = 9) ∧
    (let s : State := { siteOff with clock := .unset, second := 59, tenths := 9 };
      s.pending = [] ∧ s.crystal = true ∧ s.powered = false ∧ s.second = 59 ∧ s.tenths = 9) ∧
    State.reset.pending = [] ∧ ¬(State.reset.powered = true → State.reset.clock = .running) := by
  decide +kernel

def siteLimits : State :=
  { siteFull with saveAnswers := [.mgmt 1 4 .ok []], noticeNumber := 255, answersInRow := 4 }

theorem witness_SiteLimitsAreKept : SiteInv siteLimits ∧ ∃ t, step siteLimits = .next t :=
  ⟨by unfold SiteInv; decide +kernel, _, rfl⟩

theorem witness_QueueMatchesAgreement :
    QueueInv (siteDoing (.actuationLimit 12)) ∧ ∃ t, step (siteDoing (.actuationLimit 12)) = .next t :=
  ⟨siteDoing_queueInv _, _, rfl⟩

theorem witness_TargetsFollowTheirInputs :
    TargetInv (siteDoing .fireAsserted) ∧ ∃ t, step (siteDoing .fireAsserted) = .next t :=
  ⟨site_targetInv, _, rfl⟩

theorem witness_RostersStayInOrder :
    RosterInv (siteDoing (.replyWindowClose 2)) ∧ ∃ t, step (siteDoing (.replyWindowClose 2)) = .next t :=
  ⟨site_rosterInv, _, rfl⟩

theorem witness_ReservationsStayInBudget :
    QueueInv (siteDoing (.selectNextTransaction 0)) ∧ BudgetInv (siteDoing (.selectNextTransaction 0)) ∧
    ∃ t, step (siteDoing (.selectNextTransaction 0)) = .next t :=
  ⟨siteDoing_queueInv _, site_budgetInv, _, rfl⟩

theorem witness_ClockFieldsStayInRange :
    ClockInv { siteDoing .minuteBoundary with minute := 10079, second := 59, tenths := 9 } ∧
    ∃ t, step { siteDoing .minuteBoundary with minute := 10079, second := 59, tenths := 9 } = .next t :=
  ⟨by unfold ClockInv; decide +kernel, _, rfl⟩

/-- The last roll call of start-up, its closing broadcast on TC0's line. -/
def siteStarting (c : ClockState) : State :=
  State.onTrunk 0 (fun r => { r with
      state := .rollCall, ownership := .driving, rollStep := .close, startCall := true,
      transaction := some ⟨.rate .r9600, .rollClose, .r9600, .frame, false⟩ })
    { siteDoing (.broadcastEnd 0) with evaluator := .waiting, clock := c }

theorem witness_StartUpEndsOnce :
    (StartInv (siteDoing .fireNegated) ∧ (siteDoing .fireNegated).evaluator = .active ∧
      (∀ u r rest, (siteDoing .fireNegated).pending ≠ .powerOn u r :: rest) ∧
      (∀ rest, (siteDoing .fireNegated).pending ≠ .powerCut :: rest) ∧
      ∃ t, step (siteDoing .fireNegated) = .next t) ∧
    (∀ c, StartInv (siteStarting c) ∧ (siteStarting c).evaluator = .waiting ∧ (siteStarting c).clock = c) ∧
    (∃ t, step (siteStarting .running) = .next t ∧ t.evaluator = .active) ∧
    ∃ t, step (siteStarting .unset) = .next t ∧ t.evaluator = .active :=
  ⟨⟨nofun, rfl, nofun, nofun, _, rfl⟩, fun _ => ⟨fun _ _ => rfl, rfl, rfl⟩,
    ⟨_, rfl, by decide +kernel⟩, _, rfl, by decide +kernel⟩

theorem witness_OnlySavesWriteMemory :
    Instr.saveAckTimeout ≠ .savePageWritten ∧
    ∃ t, exec .saveAckTimeout (siteSaving (.page 3)) = .next t := ⟨by decide, _, rfl⟩

theorem witness_SavesFreezeStoredTables :
    (siteSaving (.page 55)).loader = .saving 255 (.page 55) ∧ Instr.minuteBoundary ≠ .powerCut ∧
    (∀ u r, Instr.minuteBoundary ≠ .powerOn u r) ∧
    ∃ t, exec .minuteBoundary (siteSaving (.page 55)) = .next t :=
  ⟨rfl, by decide, nofun, _, rfl⟩

theorem witness_ClockAndLatchChangeByTheirCommands :
    Instr.dueArriving 0 ≠ .powerCut ∧ (∀ u r, Instr.dueArriving 0 ≠ .powerOn u r) ∧
    (∃ t, exec (.dueArriving 0) site = .next t) ∧ Instr.dueArriving 0 ≠ .fireAsserted ∧
    (∀ tag, Instr.dueArriving 0 ≠ .clearFire tag) ∧ Instr.dueArriving 0 ≠ .minuteBoundary ∧
    (∀ tag m x, Instr.dueArriving 0 ≠ .setTime tag m x) ∧ Instr.dueArriving 0 ≠ .crystalStop ∧
    Instr.dueArriving 0 ≠ .backupSupplyLow ∧ Instr.dueArriving 0 ≠ .crystalRestart :=
  ⟨by decide, nofun, ⟨_, rfl⟩, by decide, nofun, by decide, nofun, by decide, by decide, by decide⟩

theorem witness_FramesDrawAtMostOneAnswer :
    ((frameOf (.readTime 1)).isSome = true ∧ siteOff.powered = false) ∧
    ((frameOf (.readTime 1)).isSome = true ∧ (∀ tag, Instr.readTime 1 ≠ .saveSettings tag) ∧
      8 ≤ siteFull.answers.length) ∧
    site.powered = true ∧
    ((frameOf (.readTime 1)).isSome = true ∧ ∃ t, exec (.readTime 1) site = .next t) ∧
    (frameOf .fireNegated = none ∧ Instr.fireNegated ≠ .transmitComplete ∧
      Instr.fireNegated ≠ .savePageWritten ∧ Instr.fireNegated ≠ .saveAckTimeout ∧
      Instr.fireNegated ≠ .powerCut ∧ (∀ u r, Instr.fireNegated ≠ .powerOn u r) ∧
      ∃ t, exec .fireNegated site = .next t) :=
  ⟨⟨rfl, rfl⟩, ⟨rfl, nofun, by decide +kernel⟩, rfl, ⟨rfl, _, rfl⟩, rfl, by decide, by decide, by decide,
    by decide, nofun, _, rfl⟩

theorem witness_CommandsStayInTheirBlocks :
    (site.evaluator = .active ∧ ∃ t, exec (.actuationLimit 12) site = .next t) ∧
    ((frameOf (.lock ⟨1, 10, 3, 0, 0⟩)).isSome = true ∧
      (∀ tag q, Instr.lock ⟨1, 10, 3, 0, 0⟩ ≠ .loadTrunk tag q) ∧
      (∀ tag n, Instr.lock ⟨1, 10, 3, 0, 0⟩ ≠ .resetTrunk tag n) ∧
      (∀ tag, Instr.lock ⟨1, 10, 3, 0, 0⟩ ≠ .linkReset tag) ∧
      ∃ t, exec (.lock ⟨1, 10, 3, 0, 0⟩) site = .next t) :=
  ⟨⟨rfl, _, rfl⟩, rfl, nofun, nofun, nofun, _, rfl⟩

theorem witness_CommandFramesReadBack :
    (Instr.release ⟨255, 65535, 255, 65535, 255⟩).isWellFormed = true ∧ 15 < 16 ∧
    frameOf (.release ⟨255, 65535, 255, 65535, 255⟩) =
      some (1, 255, [0xFF#8, 0xFF#8, 1#8, 0xFF#8, 0xFF#8, 0xFF#8, 0xFF#8]) := by decide +kernel

theorem witness_LinesReadBack :
    7 < 8 ∧ (List.replicate 9 true ++ [false]).getD 9 false = false ∧ ([] : List Bool).getD 9 false = false ∧
    (List.replicate 48 0x7E#8).length ≤ 48 ∧ 255 < 256 ∧
    (⟨255, .r76800, .unknown, .unknown, true, .nodeBusy⟩ : Status).kind < 256 ∧
    Polarity.inverted.accepts true = true ∧ Polarity.normal.accepts false = true ∧
    Polarity.undetermined.accepts true = true := by decide

/-! ### Power, the clock and the schedule -/

theorem witness_PowerEventsKeepTheBackupDomain :
    15 < 16 ∧ ({ site with backupValid := true } : State).backupValid = true ∧ site.backupValid = false ∧
    503 < 504 ∧ 63 < 64 ∧ 127 < 128 ∧ 7 < 8 :=
  ⟨by decide, rfl, rfl, by decide⟩

/-- The clock at a minute, with E. -/
def clockAt (m : Nat) (e : Option Nat) : State := { site with evaluated := e, minute := m }

theorem witness_MinuteBoundaryRaisesMinuteEvents :
    (site.powered = true ∧ site.crystal = true ∧ site.clock = .running) ∧
    ((clockAt 10079 none).evaluated = none) ∧
    ((clockAt 10079 (some 0)).evaluated = some 0 ∧ (0 + 10080 - 0) % 10080 = 0) ∧
    ((clockAt 5039 (some 0)).evaluated = some 0 ∧ 5039 < (5040 + 10080 - 0) % 10080) ∧
    ((clockAt 10079 (some 10079)).evaluated = some 10079 ∧ 1 ≤ (0 + 10080 - 10079) % 10080) ∧
    ((clockAt 5038 (some 0)).evaluated = some 0 ∧ (5039 + 10080 - 0) % 10080 ≤ 5039) ∧
    (∀ e, (clockAt 5038 (some 10079)).evaluated = some e → e < 10080) ∧
    (16 < 504 ∧ (site.door 16).place.isSome = true ∧
      (site.door 16).override = some ⟨.locked, 2, .minutes 1⟩) ∧
    (let s := site.onDoor 10 fun r => { r with override := some ⟨.released, 1, .untilTransition⟩ };
      s.evaluator = .active ∧ (s.door 10).zone < 64 ∧ (s.door 10).place.isSome = true ∧
      (s.door 10).override = some ⟨.released, 1, .untilTransition⟩) ∧
    ({ site with evaluator := .waiting } : State).evaluator = .waiting := by
  refine ⟨by decide +kernel, rfl, by decide +kernel, by decide +kernel, by decide +kernel, by decide +kernel,
    fun e h => ?_, by decide +kernel⟩
  cases h
  decide

theorem witness_CatchUpKeepsValuesInReach : site.powered = true := rfl

theorem witness_SetTimeSetsTheClock :
    site.serves ∧ (10080 ≤ 10080 ∨ 60 ≤ 59) ∧ (10079 < 10080 ∧ 59 < 60) ∧
    (site.minute < 10080 ∧ site.second < 60 ∧ site.tenths < 10) ∧
    (site.clock = .running ∧ ((100 * 60 + 0) * 10 + 6048000 - ((100 * 60 + 0) * 10 + 0)) % 6048000 = 0) ∧
    (site.clock = .running ∧
      6047100 ≤ ((98 * 60 + 30) * 10 + 6048000 - ((100 * 60 + 0) * 10 + 0)) % 6048000) ∧
    (site.evaluated = some 100 ∧ 1 ≤ (101 + 10080 - 100) % 10080 ∧
      ((101 * 60 + 30) * 10 + 6048000 - (100 * 60 + 0) * 10) % 6048000 ≤ 900) ∧
    (({ site with evaluated := none } : State).evaluated = none) ∧
    ((site.door 16).place.isSome = true ∧ (site.door 16).override = some ⟨.locked, 2, .minutes 1⟩) ∧
    (site.evaluated.isSome = true ∧
      ¬((102 * 60 * 10 + 6048000 - 100 * 60 * 10) % 6048000 ≤ 900)) ∧
    (let s : State := { site with clock := .unset, evaluated := none };
      s.clock = .unset ∧ s.evaluator = .active) ∧
    (let s : State := { site with clock := .unset, evaluated := none, evaluator := .waiting };
      s.clock = .unset ∧ s.evaluated = none ∧ s.evaluator = .waiting) :=
  ⟨site_serves, by decide +kernel⟩

/-- The whole week, OPEN, over every zone, single-shot and matched. -/
def wholeWeek : Window := ⟨none, 1#8, 10079, 10080, .opened, 7, true, true⟩

/-- The first minute of the week, SECURE, over zone 0, single-shot and matched. -/
def firstMinute : Window := ⟨some 0, 1#8, 0, 1, .secure, 7, true, true⟩

def siteWindows : State :=
  { site with windows := (site.windows.set 127 (some wholeWeek)).set 0 (some firstMinute) }

theorem witness_EvaluationsFollowTheTable :
    (wholeWeek.start < 10080 ∧ wholeWeek.length ≤ 10080 ∧ 10079 < 10080) ∧
    ({ site with clock := .unset } : State).clock = .unset ∧ siteWindows.clock = .running ∧
    (127 < 128 ∧ siteWindows.windows.getD 127 none = some wholeWeek ∧ wholeWeek.plans.getLsbD siteWindows.plan = true ∧
      wholeWeek.matches 0 = true) ∧
    (0 < 128 ∧ siteWindows.windows.getD 0 none = some firstMinute ∧ firstMinute.matches 1 = false ∧
      firstMinute.matches 0 = true) ∧
    (1 < 128 ∧ siteWindows.windows.getD 1 none = none) ∧
    (∀ o ∈ site.windows.rows, o = none) ∧
    (∀ o ∈ siteWindows.windows.rows, o = none ∨ o = some wholeWeek ∨ o = some firstMinute) ∧ 63 < 64 := by
  decide +kernel

/-- Each accepted request at the ends of its ranges, and each check of R36 and R4 just past them. -/
theorem witness_ScheduleRequestsReevaluate :
    site.serves ∧ site.evaluator = .active ∧ ({ site with evaluator := .waiting } : State).evaluator = .waiting ∧
    127 < 128 ∧ 7 < 8 ∧ 63 < 64 ∧
    (∀ r ∈ [(⟨127, 255, 1, 10079, 10080, 1, 7, 1⟩ : LoadWindowReq), ⟨0, 63, 255, 0, 1, 0, 0, 0⟩],
      r.slot ≤ 127 ∧ r.plans < 256 ∧ ¬((63 < r.zone ∧ r.zone ≠ 255) ∨ r.plans = 0 ∨ 10079 < r.start ∨
        r.length = 0 ∨ 10080 < r.length ∨ 1 < r.action ∨ 7 < r.priority ∨ 1 < r.single)) ∧
    (∀ r ∈ [(⟨127, 64, 1, 0, 1, 0, 0, 0⟩ : LoadWindowReq), ⟨127, 254, 1, 0, 1, 0, 0, 0⟩, ⟨127, 0, 0, 0, 1, 0, 0, 0⟩,
        ⟨127, 0, 1, 10080, 1, 0, 0, 0⟩, ⟨127, 0, 1, 0, 0, 0, 0, 0⟩, ⟨127, 0, 1, 0, 10081, 0, 0, 0⟩,
        ⟨127, 0, 1, 0, 1, 2, 0, 0⟩, ⟨127, 0, 1, 0, 1, 0, 8, 0⟩, ⟨127, 0, 1, 0, 1, 0, 0, 2⟩],
      r.slot ≤ 127 ∧ r.plans < 256 ∧ ((63 < r.zone ∧ r.zone ≠ 255) ∨ r.plans = 0 ∨ 10079 < r.start ∨
        r.length = 0 ∨ 10080 < r.length ∨ 1 < r.action ∨ 7 < r.priority ∨ 1 < r.single)) ∧
    (∀ r ∈ [(⟨63, 1, 255, 3, 255, 0, 99, 1⟩ : LoadZoneReq), ⟨0, 0, 0, 0, 0, 5, 1, 0⟩],
      r.zone ≤ 63 ∧ ¬(1 < r.defaultState ∨ 3 < r.floor ∨ 1 < r.settle)) ∧
    (∀ r ∈ [(⟨63, 2, 0, 0, 0, 5, 1, 0⟩ : LoadZoneReq), ⟨63, 0, 0, 4, 0, 5, 1, 0⟩, ⟨63, 0, 0, 0, 0, 5, 1, 2⟩],
      r.zone ≤ 63 ∧ (1 < r.defaultState ∨ 3 < r.floor ∨ 1 < r.settle)) := ⟨site_serves, by decide +kernel⟩

theorem witness_OffsetsFollowTheStagger :
    ([0, 1, 63] : List Nat).Pairwise (· < ·) ∧ ([7, 8] : List Nat)[1]? = some 8 := by decide

theorem witness_BatchTalliesAddUp :
    ((List.range 64).Nodup ∧ 63 ∈ List.range 64 ∧ 63 < 64) ∧
    ([14] : List Nat).Nodup ∧ (∀ d ∈ ([14] : List Nat), d < 504) ∧
    ((14, 0) ∈ site.places .resweep [1] [14] ∧ site.entryOf 14 = none ∧ (site.door 14).target = some .locked) := by
  decide +kernel

/-! ### The sweep queue -/

theorem witness_HandOffsFollowTheEntry :
    (350 < 504 ∧ site.entryOf 350 = none ∧ (site.door 350).bolt.satisfies (some .locked) = true) ∧
    (site.entryOf 350 = none ∧ (site.door 350).bolt.satisfies (some .released) = false) ∧
    (site.entryOf 11 = some ⟨11, .drive .locked, .schedule, 900#32, 0, .pending⟩ ∧
      (site.door 11).bolt.satisfies none = true) ∧
    (site.entryOf 13 = some ⟨13, .drive .locked, .schedule, 1000#32, 1, .waitClose⟩ ∧
      (site.door 13).bolt.satisfies (some .locked) = false) ∧
    (site.entryOf 12 = some ⟨12, .drive .locked, .schedule, 900#32, 1, .issued attempt⟩) ∧
    (let s := one (doorAt3 .thrown .queued) [⟨12, .drive .locked, .schedule, 900#32, 0, .pending⟩];
      s.entryOf 12 = some ⟨12, .drive .locked, .schedule, 900#32, 0, .pending⟩ ∧ (s.door 12).isInStep = true ∧
      (s.door 12).zone < 64) := by
  decide +kernel

/-- The site with TC0 yielded. -/
def siteYielded : State := site.onTrunk 0 fun r => { r with ownership := .yielded, shared := .twoLine, hold := true }

/-- An entry of door 12, ISSUED 60 tenths ago, with a retarget. -/
def issuedOf (o : Origin) (target : EntryTarget) (retarget : Option Target) : Entry :=
  ⟨12, target, o, 900#32, 1, .issued { attempt with retarget := retarget }⟩

theorem witness_EntryTimesDecideAttempts :
    (12 < 504 ∧ site.powered = true ∧
      site.entryOf 12 = some ⟨12, .drive .locked, .schedule, 900#32, 1, .issued attempt⟩ ∧
      site.arrived attempt.limit = true ∧ attempt.grace = false ∧ attempt.retarget = none ∧
      site.isYielded (site.door 12) = false) ∧
    (site.notices.length < 63 ∧ (site.door 12).agreement = .queued) ∧
    (∀ p ∈ [(EntryTarget.pulse 60, none), (.drive .released, some none), (.drive .locked, some (some .released))],
      (one (doorAt3 .withdrawn .queued) [issuedOf .schedule p.1 p.2]).entryOf 12 = some (issuedOf .schedule p.1 p.2)) ∧
    (siteYielded.entryOf 12 = some ⟨12, .drive .locked, .schedule, 900#32, 1, .issued attempt⟩ ∧
      siteYielded.isYielded (siteYielded.door 12) = true) ∧
    (site.entryOf 13 = some ⟨13, .drive .locked, .schedule, 1000#32, 1, .waitClose⟩ ∧
      site.arrived 1000#32 = true) := by decide +kernel

/-- Zone 0 has been paused, zone 1 not. -/
def sitePaused : State := site.onZone 0 fun r => { r with paused := some 700#32 }

theorem witness_PauseAndResumeMoveDues :
    (siteSaving (.page 0)).takes ∧ (siteSaving (.page 0)).loader ≠ .loading ∧
    (63 < 64 ∧ 64 ≠ 255) ∧ (63 < 254 ∧ 254 ≠ 255) ∧
    ((63 < 64 ∧ [63] = [63]) ∨ (63 = 255 ∧ [63] = List.range 64)) ∧
    ((255 < 64 ∧ List.range 64 = [255]) ∨ (255 = 255 ∧ List.range 64 = List.range 64)) ∧
    sitePaused.takes ∧ sitePaused.loader ≠ .loading ∧ (sitePaused.zone 0).paused = some 700#32 ∧
    (sitePaused.zone 1).paused = none ∧ (sitePaused.door 11).zone = 0 :=
  ⟨site_takes, nofun, by decide, by decide, .inl ⟨by decide, rfl⟩, .inr ⟨rfl, rfl⟩, site_takes, nofun,
    by decide +kernel⟩

theorem witness_CancelAndResweep :
    ((siteSaving (.page 0)).takes ∧ (siteSaving (.page 0)).loader ≠ .loading ∧ QueueInv (siteSaving (.page 0))) ∧
    (63 < 64 ∧ 64 ≠ 255) ∧ ((0 < 64 ∧ [0] = [0]) ∨ (0 = 255 ∧ [0] = List.range 64)) ∧
    ((255 < 64 ∧ List.range 64 = [255]) ∨ (255 = 255 ∧ List.range 64 = List.range 64)) ∧
    (∃ e ∈ site.queue, (site.door e.door).zone = 0 ∧ e.isIssued = false ∧ e.origin = .schedule) ∧
    ((site.door 14).zone = 1 ∧ (site.door 14).agreement.isPutAside = true ∧ (site.door 14).isInStep = false ∧
      (site.door 14).target = some .locked ∧ (site.fireLatch = false ∨ (site.door 14).egress = false)) ∧
    (∀ ag ∈ [Agreement.heldOut .jammed, .deferred],
      let s := one (doorAt3 .thrown ag) [];
      (s.door 12).agreement.isPutAside = true ∧ (s.door 12).isInStep = true ∧ s.fireLatch = false) ∧
    (let r : Door := { doorAt3 .thrown .deferred with egress := true, target := some .released };
      let s : State := { one r [] with fireLatch := true };
      s.takes ∧ QueueInv s ∧ (s.door 12).agreement.isPutAside = true ∧ s.fireLatch = true ∧
      (s.door 12).egress = true ∧ (s.door 12).bolt ≠ .withdrawn ∧ (s.door 12).isInStep = false) ∧
    site.notices.length + [0].length ≤ 64 ∧ site.notices.length + (List.range 64).length ≤ 64 :=
  ⟨⟨site_takes, nofun, queueInv_of site_doors (by decide +kernel) (by decide +kernel)
      (by decide +kernel) nofun⟩,
    by decide, .inl ⟨by decide, rfl⟩, .inr ⟨rfl, rfl⟩, by decide +kernel, by decide +kernel, by decide +kernel,
    ⟨site_takes, queueInv_congr (one_queueInv rfl rfl) rfl rfl rfl, by decide +kernel⟩, by decide +kernel,
    by decide +kernel⟩

/-! ### Observations -/

/-- The site of one door, its node in a transaction of purpose `p` on the line. -/
def heard (r : Door) (q : List Entry) (p : Purpose) : State :=
  (one r q).onTrunk 0 fun t => { t with
    ownership := .driving, transaction := some ⟨.poll 3, p, .r19200, .window, false⟩ }

theorem heard_queueInv {r : Door} {q : List Entry} (p : Purpose) (hp : r.place.isSome = true)
    (hq : q.map Entry.door = if r.agreement = .queued then [12] else []) : QueueInv (heard r q p) :=
  queueInv_onTrunk 0 _ (one_queueInv hp hq)

theorem heard_hears {r : Door} {q : List Entry} {p : Purpose} {o : Status}
    (h : (heard r q p).runs 0 ∧ ((heard r q p).trunk 0).ownership = .driving ∧
      ((heard r q p).trunk 0).isHeld = false ∧
      ((heard r q p).trunk 0).transaction = some ⟨.poll 3, p, .r19200, .window, false⟩ ∧
      acceptStatus ((heard r q p).trunk 0).polarity 3 (o.line false 3) = some (false, o) ∧
      (heard r q p).doorAt 0 3 = some 12) : (heard r q p).hears 0 p 12 (o.line false 3) o :=
  ⟨h.1, h.2.1, h.2.2.1, _, 3, false, h.2.2.2.1, rfl, rfl, nofun, rfl, h.2.2.2.2.1, h.2.2.2.2.2⟩

def closedDoor (r : NodeResult) : Status := ⟨3, .r19200, .thrown, .closed, false, r⟩

def openDoor : Status := ⟨3, .r19200, .withdrawn, .opened, true, .none_⟩

/-- A door of each agreement, QUEUED with an entry of each waiting phase. -/
def judged : List (Door × List Entry) :=
  [(doorAt3 .thrown .inStep, []), (doorAt3 .unknown .unknown, []), (doorAt3 .withdrawn (.heldOut .doorOpen), []),
   (doorAt3 .withdrawn (.heldOut .jammed), []), (doorAt3 .withdrawn .deferred, []),
   (doorAt3 .withdrawn .queued, [⟨12, .drive .locked, .schedule, 900#32, 0, .pending⟩]),
   (doorAt3 .thrown .queued, [⟨12, .pulse 5, .pulse, 900#32, 0, .pending⟩]),
   (doorAt3 .withdrawn .queued, [⟨12, .drive .locked, .schedule, 2000#32, 1, .waitClose⟩])]

theorem judged_queueInv (p : Purpose) : ∀ c ∈ judged, QueueInv (heard c.1 c.2 p) := fun c hc =>
  heard_queueInv p ((show ∀ c ∈ judged, c.1.place.isSome = true by decide) c hc)
    ((show ∀ c ∈ judged, c.2.map Entry.door = if c.1.agreement = .queued then [12] else [] by decide) c hc)

/-- Each clause has its agreement or its entry, and its observation, in step and out of it. -/
theorem witness_ObservationsAreJudged :
    (∀ c ∈ judged, QueueInv (heard c.1 c.2 .routine)) ∧
    (∀ c ∈ judged, ∀ o ∈ [closedDoor .none_, openDoor], (heard c.1 c.2 .routine).hears 0 .routine 12 (o.line false 3) o) ∧
    ((closedDoor .none_).bolt.satisfies (some .locked) = true ∧ openDoor.bolt.satisfies (some .locked) = false) ∧
    (∀ c ∈ judged, (heard c.1 c.2 .routine).isReachable (doorAt3 .unknown .unknown) = true) ∧
    (let s := (heard (doorAt3 .unknown .unknown) [] .routine).onTrunk 0 fun r => { r with roster := [] };
      s.isReachable (s.door 12) = false) ∧ site.notices.length < 64 := by
  refine ⟨judged_queueInv _, fun c hc o ho => heard_hears ?_, by decide, by decide +kernel, by decide +kernel,
    by decide +kernel⟩
  revert o
  revert c
  unfold State.runs
  decide +kernel

/-- A watched door, IN-STEP and held out, with a snapshot and without. -/
def watched : List (Door × List Entry) :=
  [({ doorAt3 .thrown .inStep with watched := true, snapshot := some ⟨.thrown, .closed⟩ }, []),
   ({ doorAt3 .thrown .inStep with watched := true }, []), (doorAt3 .thrown .inStep, []),
   ({ doorAt3 .thrown (.heldOut .jammed) with watched := true, leaf := .opened }, [])]

theorem witness_SupervisionComparesTheSnapshot :
    (∀ c ∈ watched, QueueInv (heard c.1 c.2 .routine)) ∧
    (∀ c ∈ watched, ∀ o ∈ [closedDoor .none_, openDoor, { closedDoor .none_ with leaf := .opened }],
      (heard c.1 c.2 .routine).hears 0 .routine 12 (o.line false 3) o) ∧ site.notices.length < 63 := by
  refine ⟨fun c hc => heard_queueInv _
    ((show ∀ c ∈ watched, c.1.place.isSome = true by decide) c hc)
    ((show ∀ c ∈ watched, c.2.map Entry.door = if c.1.agreement = .queued then [12] else [] by decide) c hc),
    fun c hc o ho => heard_hears ?_, by decide +kernel⟩
  revert o
  revert c
  unfold State.runs
  decide +kernel

/-- Attempts in flight: a THROW and a PULSE, past their limit and not, with every kind of retarget. -/
def inFlight : List Entry :=
  [issuedOf .schedule (.drive .locked) none, issuedOf .schedule (.pulse 5) none,
   issuedOf .override (.drive .locked) (some none), issuedOf .resweep (.drive .locked) (some (some .released)),
   { issuedOf .fire (.drive .released) none with phase := .issued { attempt with grace := true } },
   { issuedOf .pulse (.pulse 60) none with phase := .issued { attempt with grace := true } }]

theorem witness_FollowUpsDecideAttempts :
    (∀ e ∈ inFlight, QueueInv (heard (doorAt3 .moving .queued) [e] .followUp)) ∧
    (∀ e ∈ inFlight,
      ∀ o ∈ [closedDoor .none_, openDoor, { openDoor with bolt := .jammed }, { openDoor with bolt := .moving }],
      (heard (doorAt3 .moving .queued) [e] .followUp).hears 0 .followUp 12 (o.line false 3) o) ∧
    (∀ e ∈ inFlight, (heard (doorAt3 .moving .queued) [e] .followUp).entryOf 12 = some e ∧ e.isIssued = true) ∧
    (doorAt3 .moving .queued).zone < 64 ∧ site.notices.length < 63 := by
  refine ⟨fun e he => heard_queueInv _ rfl ((show ∀ e ∈ inFlight, [e].map Entry.door = [12] by decide) e he),
    fun e he o ho => heard_hears ?_, by decide +kernel, by decide, by decide +kernel⟩
  revert o
  revert e
  unfold State.runs
  decide +kernel

/-! ### Door commands -/

/-- Every alternative of the checks of R146 holds somewhere. -/
theorem witness_DoorCommandsAreCheckedInOrder :
    (let s : State := { site with loader := .loading };
      s.isStarting = true) ∧
    (site.isStarting = false ∧ 3 < 4) ∧
    ((site.door 503).place = none ∧ (site.door 65535).place = none) ∧
    (let s := site.onDoor 10 fun r => { r with guarded := true };
      (s.door 10).guarded = true ∧ 2 < 3 ∧ (s.door 10).place ≠ none) ∧
    (siteAlarm.fireLatch = true ∧ (siteAlarm.door 16).egress = true) ∧
    (let s := site.onZone 0 fun r => { r with floor := 3 };
      2 < (s.zone (s.door 10).zone).floor) ∧
    ((site.door 16).override = some ⟨.locked, 2, .minutes 1⟩ ∧ 1 < 2 ∧ (site.zone 1).floor ≤ 1) ∧
    ((site.entryOf 11).isSome = true) ∧
    (let s := site.onDoor 10 fun r => { r with target := some .released };
      s.entryOf 10 = none ∧ (s.door 10).target ≠ some .locked) ∧
    (site.entryOf 15 = none ∧ (site.door 15).target = some .locked ∧ (site.door 15).agreement = .unknown) ∧
    ((site.door 10).override = none) ∧
    (site.powered = true ∧ site.answers.length < 8 ∧ site.doorCheck .query ⟨1, 350, 0, 0, 0⟩ = none) := by
  decide +kernel

theorem witness_LockAndReleaseSetTheOverride :
    site.takes ∧ QueueInv site ∧ site.doorCheck .lock ⟨1, 15, 3, 1441, 0⟩ = none ∧
    (site.door 15).agreement = .unknown ∧
    site.doorCheck .release ⟨1, 10, 0, 0, 0⟩ = none ∧ (site.door 10).agreement = .inStep ∧
    (site.door 10).bolt.satisfies (some .released) = false ∧
    site.doorCheck .lock ⟨1, 10, 0, 0, 0⟩ = none ∧ (site.door 10).target = some .locked ∧
    (site.doorCheck .lock ⟨1, 14, 0, 0, 0⟩ = none ∧ site.doorCheck .release ⟨1, 14, 0, 0, 0⟩ = none ∧
      (site.door 14).agreement.isPutAside = true ∧ (site.door 14).bolt.satisfies (some .released) = true ∧
      (site.door 14).bolt.satisfies (some .locked) = false) ∧
    (let s := one (doorAt3 .thrown (.heldOut .jammed)) [];
      s.doorCheck .lock ⟨1, 12, 0, 0, 0⟩ = none ∧ (s.door 12).target = some .locked ∧
      (s.door 12).bolt.satisfies (some .locked) = true ∧ s.notices.length < 64) ∧
    (site.doorCheck .lock ⟨1, 11, 0, 0, 0⟩ = none ∧ (site.entryOf 11).isSome = true) ∧
    (site.doorCheck .release ⟨1, 12, 0, 0, 0⟩ = none ∧
      site.entryOf 12 = some ⟨12, .drive .locked, .schedule, 900#32, 1, .issued attempt⟩) :=
  ⟨site_takes, site_queueInv, by decide +kernel⟩

/-- A door of a SECURE zone that a RELEASED override holds. -/
def overridden (bolt : Bolt) (ag : Agreement) : Door :=
  { doorAt3 bolt ag with target := some .released, override := some ⟨.released, 0, .untilTransition⟩ }

theorem witness_PulseAndCancelOverride :
    site.takes ∧ QueueInv site ∧ site.doorCheck .pulse ⟨1, 350, 0, 0, 61⟩ = none ∧
    site.doorCheck .cancel ⟨1, 16, 2, 0, 0⟩ = none ∧ (site.door 16).target = some .locked ∧
    (∀ bolt ∈ [Bolt.thrown, .withdrawn], ∀ ag ∈ [Agreement.inStep, .heldOut .jammed, .deferred, .unknown],
      let s := one (overridden bolt ag) []
      s.takes ∧ QueueInv s ∧ s.doorCheck .cancel ⟨1, 12, 0, 0, 0⟩ = none ∧ (s.door 12).agreement = ag ∧
      (s.door 12).bolt.satisfies (some .locked) = decide (bolt = .thrown) ∧ s.notices.length < 64) := by
  refine ⟨site_takes, site_queueInv, by decide +kernel, by decide +kernel, by decide +kernel, fun b hb a ha => ?_⟩
  refine ⟨⟨rfl, by decide +revert +kernel⟩, one_queueInv rfl ?_, ?_⟩
  · revert a; decide +revert
  · rw [one_door]; revert a; decide +revert +kernel

/-! ### The site link -/

theorem witness_MisformedFramesAreAnswered :
    site.takes ∧ (255 ≠ 1 ∧ 255 ≠ 3) ∧
    (requestOf 1 [0x10#8, 0#8] = .unknownRequestCode 1 [0x10#8, 0#8] ∧ (0x10#8 : Byte) ≠ 0x2A#8) ∧
    (requestOf 1 [0x2A#8, 0#8] = .unknownRequestCode 1 [0x2A#8, 0#8] ∧ [(0#8 : Byte)].length ≠ 2) ∧
    (4 ≤ (4#8 : Byte).toNat ∧ site.loader = .idle) ∧
    doorCommandOf 1 [0#8, 1#8] = .doorCommandInvalid 1 [0#8, 1#8] := ⟨site_takes, by decide +kernel⟩

theorem witness_TransmitterChoosesInTurn :
    (site.powered = true ∧ SiteInv site ∧ site.answers = [] ∧ site.notices = []) ∧
    (let s : State := { siteFull with answersInRow := 4, notices := [⟨255, .clockUnset⟩] };
      SiteInv s ∧ s.notices = [⟨255, .clockUnset⟩] ∧ s.answersInRow = 4) ∧
    (let s : State := { siteFull with answersInRow := 3, notices := [⟨255, .clockUnset⟩] };
      SiteInv s ∧ s.answers = Answer.mgmt 1 1 .ok [] :: List.replicate 7 (.mgmt 1 1 .ok []) ∧
      s.answersInRow < 4) := by
  unfold SiteInv
  decide +kernel

theorem witness_StatusRequestsAnswerAtAllTimes : (siteSaving (.page 0)).takes := site_takes

theorem witness_LinkResetForgetsTheDoors :
    site.serves ∧ (let s := site.onTrunk 1 fun r => { r with hold := false };
      s.serves ∧ ∀ k, k < 8 → (s.trunk k).isHeld = false) ∧
    (10 < 504 ∧ (site.door 10).place ≠ none) ∧ (site.trunk 0).state ≠ .disabled ∧
    (site.trunk 7).state = .disabled :=
  ⟨site_serves, ⟨site_serves, by decide +kernel⟩, by decide +kernel⟩

theorem witness_SavesRunPageByPage :
    (site.powered = true ∧ site.loader = .idle) ∧
    ((siteSaving (.page 0)).loader ≠ .idle ∧ (siteSaving (.page 0)).answers.length < 8) ∧
    (siteSaving .clearMarker).loader = .saving 255 .clearMarker ∧
    ((siteSaving (.page 54)).loader = .saving 255 (.page 54) ∧ 54 < 55) ∧
    (siteSaving (.page 55)).loader = .saving 255 (.page 55) ∧
    (siteSaving .setMarker).loader = .saving 255 .setMarker ∧
    -- the first window begins in page 38 and the last in page 54
    ((2480 + 8 * 0) / 64 = 38 ∧ 0 < 128 ∧ (2480 + 8 * 127) / 64 = 54 ∧ 127 < 128 ∧ siteWindows.windows ≠ site.windows) ∧
    -- a full answer list
    (let s : State := { siteSaving .setMarker with answers := List.replicate 8 (.mgmt 1 0x04 .busy []) };
      s.powered = true ∧ s.loader = .saving 255 .setMarker ∧ ¬s.answers.length < 8) := by decide +kernel

theorem witness_LoadingTakesImageOrDefaults :
    State.reset.powered = true ∧ State.reset.loader = .loading ∧
    ∃ k, k < 8 ∧ (Image.defaults.trunks.getD k .default_).enabled = true :=
  ⟨rfl, rfl, 7, by decide, by decide +kernel⟩

/-! ### The tables -/

/-- No door of the site but 350 lies at node 63 of TC7, and none at node 62. -/
theorem site_places (d : Nat) :
    (d ≠ 350 → (site.door d).place ≠ some ⟨7, 63⟩) ∧ (site.door d).place ≠ some ⟨7, 62⟩ :=
  all_doors site_doors (fun d r => (d ≠ 350 → r.place ≠ some ⟨7, 63⟩) ∧ r.place ≠ some ⟨7, 62⟩)
    (fun _ => ⟨nofun, nofun⟩) (by decide +kernel) d

/-- A LOAD DOOR that fails check 2 of R7. -/
def badDoor (q : LoadDoorReq) : Prop := 63 < q.zone ∨ 7 < q.lockClass ∨ 1 < q.mapped ∨ 1 < q.egress ∨
  1 < q.guarded ∨ 1 < q.watched ∨ (q.mapped = 1 ∧ (7 < q.trunk ∨ q.node = 0 ∨ 63 < q.node))

/-- The site with zone 2 OPEN. -/
def siteOpened : State := site.onZone 2 fun r => { r with scheduled := some .opened }

theorem witness_LoadDoorReplacesTheRecord :
    site.serves ∧ QueueInv site ∧ 503 < 504 ∧
    (∀ q ∈ [(⟨503, 2, 0, 1, 0, 0, 0, 0, 0⟩ : LoadDoorReq), ⟨503, 1, 8, 1, 0, 0, 0, 0, 0⟩,
        ⟨503, 1, 0, 0, 0, 0, 0, 0, 0⟩, ⟨503, 1, 0, 64, 0, 0, 0, 0, 0⟩, ⟨503, 0, 0, 1, 64, 0, 0, 0, 0⟩,
        ⟨503, 0, 0, 1, 0, 8, 0, 0, 0⟩, ⟨503, 0, 0, 1, 0, 0, 2, 0, 0⟩, ⟨503, 0, 0, 1, 0, 0, 0, 2, 0⟩,
        ⟨503, 0, 0, 1, 0, 0, 0, 0, 2⟩], q.door ≤ 503 ∧ badDoor q) ∧
    (¬badDoor ⟨11, 1, 0, 2, 0, 0, 0, 0, 0⟩ ∧ (site.entryOf 11).isSome = true) ∧
    (¬badDoor ⟨503, 1, 7, 63, 63, 7, 1, 1, 1⟩ ∧ site.entryOf 503 = none ∧
      (site.door 350).place = some ⟨7, 63⟩) ∧
    (∀ q ∈ [(⟨350, 1, 7, 63, 1, 7, 1, 1, 1⟩ : LoadDoorReq), ⟨350, 1, 7, 62, 1, 7, 1, 1, 1⟩,
        ⟨350, 0, 9, 0, 1, 7, 1, 1, 1⟩], ¬badDoor q) ∧
    (site.entryOf 350 = none ∧ (site.door 350).place = some ⟨7, 63⟩) ∧
    (∀ k, k < 504 → k ≠ 350 → (site.door k).place ≠ some ⟨7, 63⟩ ∧ (site.door k).place ≠ some ⟨7, 62⟩) ∧
    -- zone 1 keeps the target LOCKED, so a watched door takes a snapshot; zone 2 changes it to RELEASED
    ((site.door 350).agreement = .inStep ∧ (site.door 350).bolt = .thrown ∧ (site.door 350).leaf = .closed ∧
      (site.door 350).target = some .locked ∧ (site.zone 1).scheduled = some .secure) ∧
    (siteOpened.serves ∧ QueueInv siteOpened ∧ (siteOpened.zone 2).scheduled = some .opened ∧
      ¬badDoor ⟨350, 1, 7, 63, 2, 0, 0, 0, 0⟩ ∧ ¬badDoor ⟨14, 1, 1, 2, 2, 0, 0, 0, 0⟩ ∧
      (siteOpened.door 350).agreement = .inStep ∧
      (siteOpened.door 350).bolt.satisfies (some .released) = false ∧
      siteOpened.entryOf 14 = none ∧ (siteOpened.door 14).place = some ⟨1, 2⟩ ∧
      (siteOpened.door 14).agreement = .heldOut .doorOpen ∧
      (siteOpened.door 14).bolt.satisfies (some .released) = true ∧ siteOpened.notices.length < 64) := by
  unfold badDoor
  refine ⟨site_serves, site_queueInv, by decide, by decide, by decide +kernel, by decide +kernel,
    by decide +kernel, by decide +kernel, fun k _ h => ⟨(site_places k).1 h, (site_places k).2⟩,
    by decide +kernel, ⟨site_takes, rfl⟩, queueInv_congr site_queueInv rfl rfl rfl, by decide +kernel⟩

theorem witness_ReadsAnswerTheRecords :
    (siteSaving (.page 0)).takes ∧ (siteSaving (.page 0)).loader ≠ .loading ∧ (503 < 504 ∧ 503 ≤ 503) ∧
    (63 < 64 ∧ 63 ≤ 63) ∧ (7 < 8 ∧ 7 ≤ 7) ∧ (127 < 128 ∧ 127 ≤ 127) ∧ (0 = 0 ∧ 63 < 64 ∧ 1 ≤ 1 ∧ 63 ≤ 63) ∧
    site.windows.getD 127 none = none ∧ siteWindows.windows.getD 127 none = some wholeWeek ∧
    (site.trunk 0).rosterInv ∧
    (14 < 504 ∧ (site.door 14).place ≠ none ∧ (site.door 14).agreement = .heldOut .doorOpen) :=
  ⟨site_takes, nofun, by decide, by decide, by decide, by decide, by decide, by decide +kernel,
    by decide +kernel, site_rosterInv 0 (by decide), by decide +kernel⟩

theorem witness_PlainLoadsSetTheirFields :
    site.takes ∧ site.loader = .idle ∧ (siteSaving (.page 0)).takes ∧ (siteSaving (.page 0)).loader ≠ .loading ∧
    (7 < 8 ∧ 8 ≤ 8) ∧ (255 < 256 ∧ 256 ≤ 256) ∧ (504 ≤ 504 ∧ 504 ≠ 65535) ∧
    (503 < 504 ∧ 0 = 0) ∧ (65535 = 65535 ∧ 1 ≤ 7 ∧ 7 ≤ 7) :=
  ⟨site_takes, rfl, site_takes, nofun, by decide⟩

/-! ### Fire -/

theorem witness_FireLineSetsTheLatch :
    site.powered = true ∧ siteAlarm.fireLatch = true ∧ site.fireLatch = false ∧ QueueInv site ∧
    site.notices.length < 64 ∧
    ((site.door 15).place ≠ none ∧ (site.door 15).egress = true ∧ (site.door 15).agreement = .unknown) ∧
    ((site.door 16).place ≠ none ∧ (site.door 16).egress = true ∧ (site.door 16).agreement ≠ .unknown ∧
      (site.door 16).bolt ≠ .withdrawn) ∧
    (let s := one { doorAt3 .withdrawn .queued with egress := true }
        [⟨12, .drive .locked, .schedule, 900#32, 0, .pending⟩];
      (s.door 12).place ≠ none ∧ (s.door 12).egress = true ∧ (s.door 12).agreement ≠ .unknown ∧
      (s.door 12).bolt = .withdrawn ∧
      s.entryOf 12 = some ⟨12, .drive .locked, .schedule, 900#32, 0, .pending⟩) ∧
    (site.door 10).egress = false ∧ (site.door 503).place = none ∧ (site.trunk 0).transaction = none ∧
    (∀ c ∈ [TrunkCommand.throw 5, .pulse 5 60, .withdraw 5], ∀ phase ∈ [LinePhase.frame, .window],
      ((site.onTrunk 0 fun r => { r with
        transaction := some ⟨c, .command 16, .r19200, phase, false⟩ }).trunk 0).transaction =
          some ⟨c, .command 16, .r19200, phase, false⟩) ∧
    ∀ f, QueueInv (site.onTrunk 0 f) :=
  ⟨rfl, rfl, rfl, site_queueInv, by decide +kernel, by decide +kernel, by decide +kernel, by decide +kernel,
    by decide +kernel, by decide +kernel, by decide +kernel, by decide +kernel,
    fun f => queueInv_onTrunk 0 f site_queueInv⟩

/-- The latch set, the line NEGATED, and an egress door RELEASED by the fire. -/
def afterFire (bolt : Bolt) (ag : Agreement) (q : List Entry) : State :=
  { one { doorAt3 bolt ag with egress := true, target := some .released } q with fireLatch := true }

theorem witness_ClearFireFollowsTheLine :
    (site.takes ∧ site.loader ≠ .loading ∧ site.fireLatch = false) ∧
    (siteAlarm.takes ∧ siteAlarm.loader ≠ .loading ∧ siteAlarm.fireLatch = true ∧ siteAlarm.fireLine = true) ∧
    (∀ bolt, QueueInv (afterFire bolt .inStep []) ∧ QueueInv (afterFire bolt .unknown []) ∧
      QueueInv (afterFire bolt .queued [issuedOf .fire (.drive .released) none]) ∧
      QueueInv (afterFire bolt .queued [⟨12, .drive .released, .fire, 900#32, 0, .pending⟩])) ∧
    (let s := afterFire .withdrawn .inStep [];
      s.takes ∧ s.loader ≠ .loading ∧ s.fireLatch = true ∧ s.fireLine = false ∧ (s.door 12).place ≠ none ∧
      (s.door 12).egress = true ∧ (s.zone (s.door 12).zone).scheduled = some .secure ∧ (s.door 12).override = none ∧
      (s.door 12).target = some .released ∧ (s.door 12).zone < 64 ∧ s.notices.length < 64) ∧
    (let s := (afterFire .withdrawn .inStep []).setZone 0 (Zone.blank .default_);
      (s.zone (s.door 12).zone).scheduled = none ∧ (s.door 12).override = none) ∧
    (siteAlarm.door 10).egress = false :=
  ⟨⟨site_takes, nofun, rfl⟩, ⟨site_takes, nofun, rfl, rfl⟩,
    fun _ => ⟨queueInv_congr (one_queueInv rfl rfl) rfl rfl rfl, queueInv_congr (one_queueInv rfl rfl) rfl rfl rfl,
      queueInv_congr (one_queueInv rfl rfl) rfl rfl rfl, queueInv_congr (one_queueInv rfl rfl) rfl rfl rfl⟩,
    ⟨site_takes, nofun, by decide +kernel⟩, by decide +kernel⟩

/-! ### Trunks -/

/-- A LOAD TRUNK that fails check 3 of R120. -/
def badTrunk (q : LoadTrunkReq) : Prop :=
  1 < q.enabled ∨ q.budget = 0 ∨ 255 < q.budget ∨ 6 < q.level ∨ q.day ∉ [2, 5, 15, 60] ∨
    q.night ∉ [2, 5, 15, 60] ∨ 2 < q.shared

theorem witness_LoadTrunkStoresSixFields :
    site.serves ∧ 7 < 8 ∧
    (∀ q ∈ [(⟨7, 2, 1, 2, 5, 15, 0⟩ : LoadTrunkReq), ⟨7, 1, 0, 2, 5, 15, 0⟩, ⟨7, 1, 256, 2, 5, 15, 0⟩,
        ⟨7, 1, 1, 7, 5, 15, 0⟩, ⟨7, 1, 1, 2, 3, 15, 0⟩, ⟨7, 1, 1, 2, 5, 61, 0⟩, ⟨7, 1, 1, 2, 5, 15, 3⟩],
      q.trunk ≤ 7 ∧ badTrunk q) ∧
    (¬badTrunk ⟨0, 1, 255, 6, 60, 2, 2⟩ ∧ 255 ≠ (site.trunk 0).budget ∧ 0 < site.reserved 0) ∧
    (¬badTrunk ⟨7, 0, 1, 0, 2, 60, 1⟩ ∧ site.reserved 7 = 0 ∧ (site.trunk 7).enabled = true) ∧
    (let s := site.onTrunk 7 fun r => { r with enabled := false };
      (s.trunk 7).enabled = false ∧ s.reserved 7 = 0) ∧
    (¬badTrunk ⟨0, 1, 40, 6, 60, 2, 2⟩ ∧ ¬badTrunk ⟨0, 1, 40, 6, 60, 2, 0⟩ ∧
      40 = (site.trunk 0).budget ∧ (site.trunk 0).enabled = true) ∧
    (let s := site.onTrunk 0 fun r => { r with hold := true };
      (s.trunk 0).ownership = .idleOwner ∧ (s.trunk 0).hold = true ∧ (site.trunk 0).hold = false) ∧
    ((site.trunk 1).ownership = .yielded ∧ (site.trunk 1).state = .running ∧ (site.trunk 1).hold = true ∧
      (site.trunk 1).enabled = true) ∧
    (site.trunk 2).ownership = .driving ∧ site.notices.length < 64 := by
  unfold badTrunk
  exact ⟨site_serves, by decide, by decide, by decide +kernel, by decide +kernel, by decide +kernel,
    by decide +kernel, by decide +kernel⟩

theorem site_runs : site.runs 0 := ⟨by decide +kernel, by decide, by decide +kernel, by decide +kernel⟩

/-- Two follow-ups are due at once, a routine poll besides. -/
def siteDue : State := site.onTrunk 0 fun r => { r with
  roster := r.roster.map fun n => { n with followUpDue := some 990#32, routineDue := some 800#32 } }

/-- Nothing waits but a routine poll, due now. -/
def siteRound : State :=
  State.onTrunk 0 (fun r => { r with roster := r.roster.map fun n => { n with routineDue := some 1000#32 } })
    { site with queue := [] }

theorem witness_SelectorServesDuesInOrder :
    (site.runs 0 ∧ (site.trunk 0).ownership = .idleOwner ∧ (site.trunk 0).transaction = none ∧
      (site.trunk 0).rosterInv) ∧
    (siteDue.runs 0 ∧ (siteDue.trunk 0).rosterInv ∧
      ∃ y ∈ (siteDue.trunk 0).watchDues, siteDue.arrived y.1 = true) ∧
    (siteRound.runs 0 ∧ (siteRound.trunk 0).rosterInv ∧
      (∀ y ∈ (siteRound.trunk 0).watchDues, siteRound.arrived y.1 = false) ∧
      siteRound.candidate 0 = none ∧
      ∃ y ∈ (siteRound.trunk 0).roundDues, siteRound.arrived y.1 = true) ∧
    (let s : State := { site with queue := [] };
      (∀ y ∈ (s.trunk 0).watchDues, s.arrived y.1 = false) ∧ s.candidate 0 = none ∧
      ∀ y ∈ (s.trunk 0).roundDues, s.arrived y.1 = false) :=
  ⟨⟨site_runs, by decide +kernel, by decide +kernel, site_rosterInv 0 (by decide)⟩,
    ⟨⟨by decide +kernel, by decide, by decide +kernel, by decide +kernel⟩, rosterInv_of (by decide +kernel), by decide +kernel⟩,
    ⟨⟨by decide +kernel, by decide, by decide +kernel, by decide +kernel⟩, rosterInv_of (by decide +kernel), by decide +kernel⟩,
    by decide +kernel⟩

/-- Door 11's entry is the best of TC0 on the site. With a budget of 1 and door 12's reservation it does not fit;
with its zone paused, or its node OFFLINE, no entry is eligible. -/
theorem witness_SelectorIssuesTheBestEntry :
    (site.runs 0 ∧ (site.trunk 0).ownership = .idleOwner ∧ (site.trunk 0).transaction = none ∧ QueueInv site) ∧
    (let e : Entry := ⟨11, .drive .locked, .schedule, 900#32, 0, .pending⟩;
      (site.queue = [] ++ e :: site.queue.drop 1 ∧ site.arrived e.due = true ∧
        (site.door 11).place = some ⟨0, 2⟩ ∧ (site.trunk 0).node 2 = some (nodeAt 2 (some 2000#32)) ∧
        (site.zone (site.door 11).zone).paused = none ∧ site.fireLatch = false ∧
        ∀ x ∈ site.queue.drop 1, x.phase ≠ .pending) ∧
      4 + site.reserved 0 ≤ (site.trunk 0).effectiveBudget ∧
      (∀ y ∈ (site.trunk 0).watchDues, site.arrived y.1 = false)) ∧
    (let s := site.onTrunk 0 fun r => { r with budget := 1 };
      ¬(s.reserved 0 = 0 ∨ 4 + s.reserved 0 ≤ (s.trunk 0).effectiveBudget)) ∧
    ((sitePaused.zone (sitePaused.door 11).zone).paused ≠ none) ∧
    (let s := site.onTrunk 0 (Trunk.onNode 2 fun m => { m with online := false });
      ((s.trunk 0).node 2).map Node.online = some false) :=
  ⟨⟨site_runs, by decide +kernel, by decide +kernel, site_queueInv⟩, by decide +kernel⟩

/-- The site with a transaction on TC0. -/
def siteOn (c : TrunkCommand) (p : Purpose) (phase : LinePhase) : State :=
  site.onTrunk 0 fun r => { r with
    ownership := .driving, transaction := some ⟨c, p, .r19200, phase, false⟩ }

/-- TC0 after a reset: in an abandoned reply window or behind an abort trailer, without HOLD and with it. -/
def resetting : List State :=
  [(Ownership.idleOwner, true, false, none), (.yielded, true, true, none),
   (.driving, false, false, some ⟨.poll 3, .routine, .r19200, .trailer, false⟩),
   (.driving, false, true, some ⟨.poll 3, .routine, .r19200, .trailer, false⟩)].map fun (o, w, h, x) =>
    site.onTrunk 0 fun r => { r with
      state := .rollCall, rollStep := .rateReset 0, ownership := o, windowWait := w, shared := .twoLine,
      hold := h, transaction := x }

theorem witness_ResetTrunkForgetsItsDoors :
    site.takes ∧ site.loader ≠ .loading ∧ QueueInv site ∧ 7 < 8 ∧
    (7 ≤ 7 ∧ (site.trunk 7).state = .disabled) ∧ (0 ≤ 7 ∧ (site.trunk 0).state ≠ .disabled) ∧
    (site.door 12).isOn 0 = true ∧ (site.door 13).isOn 0 = false ∧
    (∀ phase ∈ [LinePhase.frame, .window], ((siteOn (.throw 3) (.command 12) phase).trunk 0).transaction =
      some ⟨.throw 3, .command 12, .r19200, phase, false⟩) ∧
    (site.entryOf 12 = some ⟨12, .drive .locked, .schedule, 900#32, 1, .issued attempt⟩ ∧
      Origin.schedule.isBatch = true ∧ (site.door 12).zone < 64) ∧
    ((site.trunk 0).transaction = none ∧ (site.trunk 0).windowWait = false ∧ (site.trunk 0).isHeld = false) ∧
    ((site.trunk 1).transaction = none ∧ (site.trunk 1).state ≠ .disabled ∧ (site.trunk 1).isHeld = true) ∧
    (∀ s ∈ resetting, s.takes ∧ s.loader ≠ .loading ∧ QueueInv s ∧ (s.trunk 0).state = .rollCall ∧
      (s.trunk 0).rollStep = .rateReset 0) ∧
    resetting.map (fun s => ((s.trunk 0).ownership, (s.trunk 0).windowWait, (s.trunk 0).isHeld,
        (s.trunk 0).transaction.map Transaction.phase)) =
      [(.idleOwner, true, false, none), (.yielded, true, true, none),
       (.driving, false, false, some .trailer), (.driving, false, true, some .trailer)] := by
  refine ⟨site_takes, by decide +kernel, site_queueInv, by decide +kernel, by decide +kernel, by decide +kernel,
    by decide +kernel, by decide +kernel, by decide +kernel, by decide +kernel, by decide +kernel,
    by decide +kernel, fun s hs => ?_, by decide +kernel⟩
  have h : ∀ s ∈ resetting, (s.trunk 0).state = .rollCall ∧ (s.trunk 0).rollStep = .rateReset 0 := by decide +kernel
  have h1 := h s hs
  obtain ⟨c, _, rfl⟩ := List.mem_map.1 hs
  exact ⟨site_takes, nofun, queueInv_onTrunk _ _ site_queueInv, h1⟩

/-- TC2 asks the node of a door of the site. -/
def siteRollDoors : List (Nat × Door) := siteDoors ++ [(350, doorIn 2 3 63 false .unknown .unknown)]

def siteRoll : State := putDoors siteRollDoors siteRest

theorem siteRoll_queueInv : QueueInv siteRoll :=
  queueInv_of (l := siteRollDoors) rfl (by decide +kernel) (by decide +kernel) (by decide +kernel)
    (by decide +kernel)

theorem siteRoll_rosterInv : RosterInv siteRoll := fun t ht =>
  rosterInv_of ((show ∀ t, t < 8 → rosterOk (siteRoll.trunk t) = true by decide +kernel) t ht)

/-- TC2 of the site at ROLL `a` of its roll call, with the level of HOLD. -/
def calling (a : Nat) (hold : Bool) : State := siteRoll.onTrunk 2 fun r => { r with
  shared := .twoLine, hold := hold, transaction := some ⟨.roll a, .rollCall, .r9600, .window, false⟩ }

/-- Door 12's entry waits for its leaf to close, and its node has been polled. -/
def watching (missed : Nat) : State :=
  (heard (doorAt3 .withdrawn .queued) [⟨12, .drive .locked, .schedule, 2000#32, 1, .waitClose⟩] .closeWatch).onTrunk 0
    fun r => { r with roster := [{ nodeAt 3 none with missed := missed }] }

theorem watching_queueInv (missed : Nat) : QueueInv (watching missed) :=
  queueInv_onTrunk 0 _ (heard_queueInv .closeWatch rfl rfl)

theorem witness_RepliesAreObserved :
    (let s := siteOn (.poll 1) .routine .window;
      s.powered = true ∧ 0 < 8 ∧ s.evaluator = .active ∧
      (s.trunk 0).transaction = some ⟨.poll 1, .routine, .r19200, .window, false⟩ ∧
      acceptStatus (s.trunk 0).polarity 1 ((closedDoor .none_).line true 1) =
        some (true, closedDoor .none_) ∧ s.doorAt 0 1 = some 10 ∧ (s.trunk 0).state = .running) ∧
    (QueueInv (watching 0) ∧
      (watching 0).entryOf 12 = some ⟨12, .drive .locked, .schedule, 2000#32, 1, .waitClose⟩ ∧
      openDoor.bolt ≠ .thrown ∧ openDoor.leaf ≠ .closed ∧
      acceptStatus ((watching 0).trunk 0).polarity 3 (openDoor.line false 3) = some (false, openDoor)) ∧
    (∀ a ∈ [3, 63], ∀ hold ∈ [false, true],
      let s := calling a hold;
      (s.trunk 2).transaction = some ⟨.roll a, .rollCall, .r9600, .window, false⟩ ∧
      (∀ max ∈ [Rate.r9600, .r19200],
        let o : Status := { closedDoor .none_ with maxRate := max };
        acceptStatus (s.trunk 2).polarity a (o.line false a) = some (false, o)) ∧
      s.powered = true ∧ s.evaluator = .active ∧ (s.trunk 2).state = .rollCall ∧ (s.trunk 2).isHeld = hold ∧
      (s.trunk 2).windowWait = false ∧ (s.trunk 2).polarity = .undetermined ∧ s.notices.length < 62) ∧
    ((calling 3 false).doorAt 2 3 = some 350 ∧ (calling 63 false).doorAt 2 63 = none) ∧
    (∀ a ∈ [3, 63], ∀ hold ∈ [false, true], RosterInv (calling a hold) ∧ QueueInv (calling a hold)) := by
  refine ⟨by decide +kernel, ⟨watching_queueInv 0, by decide +kernel⟩, by decide +kernel, by decide +kernel,
    fun a ha hold hh => ⟨fun t ht => rosterInv_of ?_, queueInv_onTrunk 2 _ siteRoll_queueInv⟩⟩
  exact (show ∀ a ∈ [3, 63], ∀ hold ∈ [false, true], ∀ t, t < 8 → rosterOk ((calling a hold).trunk t) = true by
    decide +kernel) a ha hold hh t ht

theorem siteOn_queueInv (c : TrunkCommand) (p : Purpose) (phase : LinePhase) :
    QueueInv (siteOn c p phase) := queueInv_onTrunk 0 _ site_queueInv

/-- Each result of the table of R82, at an entry below its limit and at one that reaches it. -/
theorem witness_CommandResultsDecideAttempts :
    (let s := siteOn (.throw 3) (.command 12) .window;
      s.runs 0 ∧ QueueInv s) ∧
    (let s := siteOn (.throw 3) (.command 12) .window;
      (s.trunk 0).transaction = some ⟨.throw 3, .command 12, .r19200, .window, false⟩ ∧
      (∀ r ∈ [NodeResult.none_, .started, .already, .refusedOpen, .refusedJam, .nodeBusy],
        acceptStatus (s.trunk 0).polarity 3 ((closedDoor r).line false 3) = some (false, closedDoor r)) ∧
      s.doorAt 0 3 = some 12 ∧
      s.entryOf 12 = some ⟨12, .drive .locked, .schedule, 900#32, 1, .issued attempt⟩ ∧
      attempt.retarget = none ∧ ¬(s.attemptLimit ⟨12, .drive .locked, .schedule, 900#32, 1, .pending⟩ ≤ 1 + 1)) ∧
    (let s := (siteOn (.throw 3) (.command 12) .window).onZone 0 fun r => { r with limit := 2 };
      s.attemptLimit ⟨12, .drive .locked, .schedule, 900#32, 1, .pending⟩ ≤ 1 + 1) ∧
    (∀ e ∈ inFlight, QueueInv (heard (doorAt3 .moving .queued) [e] (.command 12))) ∧
    (∀ e ∈ inFlight, (heard (doorAt3 .moving .queued) [e] (.command 12)).entryOf 12 = some e ∧
      (heard (doorAt3 .moving .queued) [e] (.command 12)).doorAt 0 3 = some 12) :=
  ⟨⟨⟨by decide +kernel, by decide, by decide +kernel, by decide +kernel⟩, siteOn_queueInv _ _ _⟩,
    by decide +kernel, by decide +kernel,
    fun e he => heard_queueInv _ rfl ((show ∀ e ∈ inFlight, [e].map Entry.door = [12] by decide) e he),
    by decide +kernel⟩

/-- A THROW with a retarget, its node two replies short. -/
def thirdMiss (bolt : Bolt) : State :=
  (one (doorAt3 bolt .queued) [issuedOf .schedule (.drive .locked) (some (some .released))]).onTrunk 0 fun r =>
    { r with
      ownership := .driving, roster := [{ nodeAt 3 none with missed := 2 }],
      transaction := some ⟨.throw 3, .command 12, .r19200, .window, false⟩ }

theorem witness_MissedRepliesAreCounted :
    (let s := siteOn (.poll 1) .routine .window;
      s.runs 0) ∧
    (let s := siteOn (.poll 1) .routine .window;
      (s.trunk 0).transaction = some ⟨.poll 1, .routine, .r19200, .window, false⟩ ∧
      (s.trunk 0).node 1 = some (nodeAt 1 (some 2000#32)) ∧ (nodeAt 1 (some 2000#32)).missed < 2) ∧
    (let s := (siteOn (.poll 1) .routine .window).onTrunk 0 fun r => { r with
        roster := [{ nodeAt 1 none with missed := 2 }] };
      (s.trunk 0).node 1 = some { nodeAt 1 none with missed := 2 } ∧ s.doorAt 0 1 = some 10 ∧
      (s.trunk 0).isHeld = false ∧ s.notices.length < 62 ∧ (s.door 10).agreement ≠ .unknown) ∧
    (let s := siteOn (.throw 3) (.command 12) .window;
      s.doorAt 0 3 = some 12 ∧ (s.trunk 0).node 3 = some (nodeAt 3 (some 2000#32)) ∧
      s.entryOf 12 = some ⟨12, .drive .locked, .schedule, 900#32, 1, .issued attempt⟩) ∧
    (let s := siteOn (.poll 3) .followUp .window;
      (s.trunk 0).transaction = some ⟨.poll 3, .followUp, .r19200, .window, false⟩ ∧ s.doorAt 0 3 = some 12 ∧
      s.entryOf 12 = some ⟨12, .drive .locked, .schedule, 900#32, 1, .issued attempt⟩) ∧
    (∀ missed ∈ [1, 2],
      ((watching missed).trunk 0).transaction = some ⟨.poll 3, .closeWatch, .r19200, .window, false⟩ ∧
      ((watching missed).trunk 0).node 3 = some { nodeAt 3 none with missed := missed } ∧
      (watching missed).doorAt 0 3 = some 12 ∧
      (watching missed).entryOf 12 = some ⟨12, .drive .locked, .schedule, 2000#32, 1, .waitClose⟩) ∧
    (∀ a ∈ [3, 63], ∀ hold ∈ [false, true],
      let s := calling a hold;
      s.powered = true ∧ 2 < 8 ∧ s.evaluator = .active ∧
      (s.trunk 2).transaction = some ⟨.roll a, .rollCall, .r9600, .window, false⟩ ∧
      (s.trunk 2).state = .rollCall ∧ (s.trunk 2).windowWait = false ∧ s.notices.length < 63) ∧
    (∀ bolt, QueueInv (thirdMiss bolt)) ∧
    (∀ bolt ∈ [Bolt.thrown, .withdrawn], (thirdMiss bolt).runs 0 ∧
      ((thirdMiss bolt).trunk 0).transaction = some ⟨.throw 3, .command 12, .r19200, .window, false⟩ ∧
      ((thirdMiss bolt).trunk 0).node 3 = some { nodeAt 3 none with missed := 2 } ∧
      (thirdMiss bolt).doorAt 0 3 = some 12 ∧ ((thirdMiss bolt).door 12).zone < 64 ∧
      (thirdMiss bolt).entryOf 12 = some (issuedOf .schedule (.drive .locked) (some (some .released)))) := by
  refine ⟨⟨by decide +kernel, by decide, by decide +kernel, by decide +kernel⟩, by decide +kernel,
    by decide +kernel, by decide +kernel, by decide +kernel, by decide +kernel, by decide +kernel,
    fun _ => queueInv_onTrunk 0 _ (one_queueInv rfl rfl), ?_⟩
  unfold State.runs
  decide +kernel

/-- The node of door 10 is OFFLINE, and its recovery turn is on the line of a trunk at a rate. -/
def recovering (rate : Rate) (p : Purpose) : State :=
  site.onTrunk 0 fun r => { r with
    ownership := .driving, rate := rate, roster := [{ nodeAt 1 none with online := false, missed := 3 }],
    transaction := some ⟨.poll 1, p, .r9600, .window, false⟩ }

theorem witness_RecoveryTurnsBringNodesBack :
    (∀ rate p, QueueInv (recovering rate p)) ∧
    (∀ rate ∈ [Rate.r9600, .r19200], ∀ p ∈ [Purpose.recoveryFirst, .recoverySecond],
      let s := recovering rate p;
      (s.powered = true ∧ 0 < 8 ∧ (s.trunk 0).state = .running ∧ s.evaluator = .active) ∧
      (s.trunk 0).transaction = some ⟨.poll 1, p, .r9600, .window, false⟩ ∧ (s.trunk 0).isHeld = false ∧
      (s.trunk 0).node 1 = some { nodeAt 1 none with online := false, missed := 3 } ∧ (s.trunk 0).rate = rate ∧
      s.notices.length < 64 ∧ s.doorAt 0 1 = some 10) ∧
    (∀ max ∈ [Rate.r9600, .r19200],
      let o : Status := { closedDoor .none_ with maxRate := max };
      acceptStatus ((recovering .r19200 .recoverySecond).trunk 0).polarity 1 (o.line false 1) = some (false, o)) ∧
    (let s := siteOn (.rate .r19200) .recoveryRate .frame;
      s.powered = true ∧ (s.trunk 0).isHeld = false ∧
      (s.trunk 0).transaction = some ⟨.rate .r19200, .recoveryRate, .r19200, .frame, false⟩) :=
  ⟨fun _ _ => queueInv_onTrunk 0 _ site_queueInv, by decide +kernel⟩

/-- TC0 in its roll call, with a broadcast on the line. -/
def siteCall (step : RollStep) (p : Purpose) : State :=
  site.onTrunk 0 fun r => { r with
    state := .rollCall, ownership := .driving, rollStep := step,
    transaction := some ⟨.rate .r9600, p, .r9600, .frame, false⟩ }

theorem witness_LineEndsMoveTheTrunk :
    (∀ k ∈ [0, 1, 2, 3],
      ((siteCall (.rateReset k) .rateReset).trunk 0).transaction =
        some ⟨.rate .r9600, .rateReset, .r9600, .frame, false⟩ ∧
      ((siteCall (.rateReset k) .rateReset).trunk 0).isHeld = false ∧
      ((siteCall (.rateReset k) .rateReset).trunk 0).state = .rollCall ∧
      ((siteCall (.rateReset k) .rateReset).trunk 0).windowWait = false ∧
      ((siteCall (.rateReset k) .rateReset).trunk 0).rollStep = .rateReset k ∧ k ≤ 3) ∧
    (((siteCall .close .rollClose).trunk 0).transaction =
        some ⟨.rate .r9600, .rollClose, .r9600, .frame, false⟩ ∧
      ((siteCall .close .rollClose).trunk 0).isHeld = false ∧
      (siteCall .close .rollClose).notices.length < 64) ∧
    (let s := siteOn (.throw 3) (.command 12) .trailer;
      s.powered = true ∧ 0 < 8 ∧ s.evaluator = .active ∧
      (s.trunk 0).transaction = some ⟨.throw 3, .command 12, .r19200, .trailer, false⟩ ∧
      s.entryOf 12 = some ⟨12, .drive .locked, .schedule, 900#32, 1, .issued attempt⟩ ∧
      (s.trunk 0).state = .running) ∧
    (∀ bolt ∈ [Bolt.thrown, .withdrawn],
      let s := (one (doorAt3 bolt .queued) [issuedOf .schedule (.drive .locked) (some (some .released))]).onTrunk 0
        fun r => { r with
          ownership := .driving, transaction := some ⟨.throw 3, .command 12, .r9600, .trailer, false⟩ };
      s.entryOf 12 = some (issuedOf .schedule (.drive .locked) (some (some .released))) ∧
      (s.trunk 0).state = .running) ∧
    (let s := (siteCall .close .rollClose).onTrunk 0 fun r => { r with shared := .twoLine, hold := true };
      (s.trunk 0).isHeld = true ∧ s.notices.length < 63) := by decide +kernel

theorem witness_SupplySamplesAreJudged :
    (site.powered = true ∧ 7 < 8 ∧ (site.trunk 7).state = .disabled) ∧
    ((site.trunk 0).state ≠ .disabled ∧ (site.trunk 0).supply = .normal ∧
      min 209 315 < 190 + 10 * (site.trunk 0).level ∧ ¬(min 210 315 < 190 + 10 * (site.trunk 0).level)) ∧
    (let s := site.onTrunk 0 fun r => { r with supply := .low };
      (s.trunk 0).supply = .low ∧ 190 + 10 * (s.trunk 0).level + 5 ≤ min 215 315 ∧
      ¬(190 + 10 * (s.trunk 0).level + 5 ≤ min 214 315)) := by decide +kernel

theorem witness_HoldMovesOwnership :
    site.powered = true ∧ 7 < 8 ∧ (site.trunk 0).shared = .unshared ∧ (site.trunk 1).ownership ≠ .idleOwner ∧
    (let s := site.onTrunk 0 fun r => { r with shared := .threeLine };
      (s.trunk 0).shared ≠ .unshared ∧ (s.trunk 0).ownership = .idleOwner ∧ s.notices.length < 64) ∧
    ((site.trunk 1).ownership = .yielded ∧ (site.trunk 1).state = .running) ∧
    (∀ step ∈ [RollStep.rateReset 0, .rateReset 3, .roll 1, .roll 63, .close], ∀ wait ∈ [false, true],
      let s := site.onTrunk 1 fun r => { r with state := .rollCall, rollStep := step, windowWait := wait };
      (s.trunk 1).ownership = .yielded ∧ (s.trunk 1).state = .rollCall ∧ (s.trunk 1).rollStep = step ∧
      (s.trunk 1).windowWait = wait ∧ (s.trunk 1).roster.map Node.maxRate = [.r19200, .r19200]) := by
  decide +kernel

theorem witness_YieldedTrunksListen :
    (site.powered = true ∧ 1 < 8 ∧ (site.trunk 1).ownership = .yielded ∧ site.doorAt 1 2 = some 14) ∧
    (readTrunkFrame (TrunkCommand.pulse 2 60).line = some ⟨false, 2, 6, [60#8]⟩ ∧ 2 ≤ 63 ∧ 4 ≤ 6 ∧ 6 ≤ 6) ∧
    (readTrunkFrame (TrunkCommand.poll 2).line = some ⟨false, 2, 3, []⟩ ∧ 1 ≤ 3 ∧ 3 ≤ 3) ∧
    (∀ w ∈ (site.trunk 1).snoops, acceptStatus (site.trunk 1).polarity w.addr [] = none) ∧
    ((⟨2, false⟩ : Snoop) ∈ (site.trunk 1).snoops ∧
      acceptStatus (site.trunk 1).polarity 2 ((closedDoor .none_).line false 2) =
        some (false, closedDoor .none_) ∧
      (site.trunk 1).node 2 = some (nodeAt 2 none)) ∧
    (let s := (site.onTrunk 1 fun r => { r with roster := [] }).onDoor 14 fun r =>
        { r with agreement := .unknown };
      (s.trunk 1).isOnline 2 = false ∧ (s.door 14).agreement = .unknown) := by decide +kernel

theorem witness_RefusedCommandsChangeNothing :
    (8 ≤ 8 ∧ 504 ≤ 504) ∧ ((siteSaving (.page 0)).takes ∧ (siteSaving (.page 0)).loader ≠ .idle) ∧
    (({ site with loader := .loading } : State).takes ∧
      ({ site with loader := .loading } : State).loader = .loading) :=
  ⟨by decide, ⟨site_takes, by decide +kernel⟩, site_takes, rfl⟩

end Sys2Proof.Tests
end

section
/-!
SUPPORT. Evaluations (R40 to R47): the time test round the week, the single-shot rule and the zones' scheduled
states at the minute of an evaluation.
-/

namespace Sys2Proof.Machine

/-! ### The time test (R40) -/

theorem minutesAfter_add_mod {start k : Nat} (hs : start < 10080) (hk : k < 10080) :
    minutesAfter ((start + k) % 10080) start = k := by
  unfold minutesAfter
  omega

theorem matches_iff {w : Window} {k : Nat} (hs : w.start < 10080) (hk : k < 10080) :
    w.matches ((w.start + k) % 10080) = true ↔ k < w.length := by
  unfold Window.matches
  rw [minutesAfter_add_mod hs hk, decide_eq_true_iff]

/-! ### What an evaluation stores (R44) -/

/-- Once the overrides of a transition set are removed, the rest of its delivery is calm. -/
theorem calm_transition (zs : List Nat) (s : State) : Calm (s.dropTransitional zs) (s.transition zs) :=
  (calm_storeTargets _ _).trans ((calm_scheduleBatch _ _ _ _).trans (calm_scheduleBatch _ _ _ _))

theorem Calm.zone_scheduled {s t : State} (h : Calm s t) (z : Nat) :
    (t.zone z).scheduled = (s.zone z).scheduled := by
  have hz : (t.zones.rows.map Zone.scheduled)[z]? = (s.zones.rows.map Zone.scheduled)[z]? := by
    rw [h.scheduled]
  rw [List.getElem?_map, List.getElem?_map] at hz
  unfold State.zone Table.getD
  rw [← Option.getD_map Zone.scheduled, ← Option.getD_map Zone.scheduled, hz]

theorem transition_windows (zs : List Nat) (s : State) : (s.transition zs).windows = s.windows :=
  (calm_transition zs s).windows

theorem transition_scheduled (zs : List Nat) (s : State) (z : Nat) :
    ((s.transition zs).zone z).scheduled = (s.zone z).scheduled :=
  (calm_transition zs s).zone_scheduled z

theorem reschedule_scheduled {z : Nat} (hz : z < 64) (m : Nat) (s : State) :
    ((s.reschedule m).zone z).scheduled = s.scheduledAt z m := by
  unfold State.reschedule State.zone
  rw [table_getD_mapIdx _ _ _ hz (.blank .default_)]

/-- An evaluation with an empty transition set stops at the scheduled states; any other delivers its set. -/
theorem evaluate_cases (m : Nat) (s : State) :
    s.evaluate m = (s.stepWindows m).reschedule m ∨
    ∃ zs, s.evaluate m = (((s.stepWindows m).reschedule m).transition zs).driveRequests := by
  unfold State.evaluate
  dsimp only
  split
  · exact .inl rfl
  · exact .inr ⟨_, rfl⟩

theorem evaluate_windows (m : Nat) (s : State) : (s.evaluate m).windows = (s.stepWindows m).windows := by
  rcases evaluate_cases m s with h | ⟨zs, h⟩
  · rw [h]; rfl
  · rw [h, (calm_driveRequests _).windows, transition_windows]; rfl

theorem evaluate_scheduled {z : Nat} (hz : z < 64) (m : Nat) (s : State) :
    ((s.evaluate m).zone z).scheduled = (s.stepWindows m).scheduledAt z m := by
  rcases evaluate_cases m s with h | ⟨zs, h⟩
  · rw [h, reschedule_scheduled hz]
  · rw [h, (calm_driveRequests _).zone_scheduled, transition_scheduled, reschedule_scheduled hz]

/-! ### The single-shot rule (R46, R47) -/

theorem stepWindows_unset {s : State} (h : s.clock = .unset) (m : Nat) : s.stepWindows m = s := by
  simp [State.stepWindows, h]

theorem stepWindows_running {s : State} (h : s.clock = .running) (m : Nat) :
    s.stepWindows m = { s with windows := s.windows.mapIdx fun _ w => slotAt s.plan m w } := by
  simp [State.stepWindows, h]

theorem stepWindows_getD {s : State} (h : s.clock = .running) (m : Nat) {i : Nat} (hi : i < 128) :
    (s.stepWindows m).windows.getD i none = slotAt s.plan m (s.windows.getD i none) := by
  rw [stepWindows_running h]
  exact table_getD_mapIdx _ _ _ hi none none

/-- The window with its matched flag set where it is single-shot (R46). -/
def Window.flagged (w : Window) : Window := { w with matched := w.single || w.matched }

/-- A window that takes part and matches keeps its slot. -/
theorem singleShot_of_matches {plan m : Nat} {w : Window} (hp : w.takesPart plan = true)
    (hm : w.matches m = true) : w.singleShot plan m = some w.flagged := by
  obtain ⟨_, _, _, _, _, _, single, _⟩ := w
  cases single <;> simp [Window.singleShot, Window.flagged, hp, hm]

/-- The single-shot rule changes no field of a window but its matched flag. -/
theorem eq_or_flagged_of_singleShot {plan m : Nat} {w v : Window} (h : w.singleShot plan m = some v) :
    v = w ∨ v = w.flagged := by
  unfold Window.singleShot at h
  split at h
  · cases h
  · split at h
    · next hs =>
      simp only [Bool.and_eq_true] at hs
      obtain ⟨⟨hsingle, -⟩, -⟩ := hs
      cases h
      exact .inr (by simp [Window.flagged, hsingle])
    · cases h; exact .inl rfl

/-! ### Candidates (R41) -/

/-- The window takes part under the plan, speaks for zone `z` and matches minute `m` (R41, step 2). -/
def Window.isCandidate (plan z m : Nat) (w : Window) : Bool :=
  w.takesPart plan && w.speaksFor z && w.matches m

theorem candidates_eq (s : State) (z m : Nat) :
    s.candidates z m = s.windows.rows.reduceOption.filter (Window.isCandidate s.plan z m) := rfl

@[simp] theorem isCandidate_flagged (plan z m : Nat) (w : Window) :
    w.flagged.isCandidate plan z m = w.isCandidate plan z m := rfl

@[simp] theorem flagged_priority (w : Window) : w.flagged.priority = w.priority := rfl

@[simp] theorem priority_comp_flagged : Window.priority ∘ Window.flagged = Window.priority := rfl

@[simp] theorem flagged_action (w : Window) : w.flagged.action = w.action := rfl

theorem mem_candidates {s : State} {z m : Nat} {w : Window} :
    w ∈ s.candidates z m ↔ some w ∈ s.windows.rows ∧ w.plans.getLsbD s.plan = true ∧
      (w.zone = none ∨ w.zone = some z) ∧ w.matches m = true := by
  have hz : w.speaksFor z = true ↔ w.zone = none ∨ w.zone = some z := by
    unfold Window.speaksFor
    cases w.zone <;> simp
  have hrow : w ∈ s.windows.rows.reduceOption ↔ some w ∈ s.windows.rows := by
    simp only [List.reduceOption, List.mem_filterMap, id_eq, exists_eq_right]
  simp only [candidates_eq, Window.isCandidate, List.mem_filter, Bool.and_eq_true, hrow, hz, Window.takesPart,
    and_assoc]

/-- What the single-shot rule at minute `m` leaves of a slot is a candidate at `m` exactly where the slot held
one: a candidate is never retired, and no other window becomes one. -/
theorem slotAt_filter_isCandidate (plan z m : Nat) (o : Option Window) :
    (slotAt plan m o).filter (Window.isCandidate plan z m) =
      (o.filter (Window.isCandidate plan z m)).map Window.flagged := by
  cases o with
  | none => rfl
  | some w =>
    change (w.singleShot plan m).filter _ = _
    cases hc : w.isCandidate plan z m with
    | true =>
      have hw := hc
      simp only [Window.isCandidate, Bool.and_eq_true] at hw
      obtain ⟨⟨hp, -⟩, hm⟩ := hw
      simp [singleShot_of_matches hp hm, Option.filter, hc]
    | false =>
      cases h : w.singleShot plan m with
      | none => simp [Option.filter, hc]
      | some v => rcases eq_or_flagged_of_singleShot h with rfl | rfl <;> simp [Option.filter, hc]

theorem reduceOption_filter_map_slotAt (plan z m : Nat) (rows : List (Option Window)) :
    (rows.map (slotAt plan m)).reduceOption.filter (Window.isCandidate plan z m) =
      (rows.reduceOption.filter (Window.isCandidate plan z m)).map Window.flagged := by
  simp only [List.reduceOption, List.filter_filterMap, List.filterMap_map, List.map_filterMap]
  exact congrArg (List.filterMap · rows) (funext (slotAt_filter_isCandidate plan z m))

/-- The single-shot rule of an evaluation keeps the candidates of its minute, but for their matched flags. -/
theorem stepWindows_candidates {s : State} (h : s.clock = .running) (z m : Nat) :
    (s.stepWindows m).candidates z m = (s.candidates z m).map Window.flagged := by
  have hrows : (s.stepWindows m).windows.rows = s.windows.rows.map (slotAt s.plan m) := by
    rw [stepWindows_running h]
    exact List.ext_getElem (by simp [Table.mapIdx]) (by simp [Table.mapIdx])
  rw [candidates_eq, candidates_eq, hrows, (quiet_stepWindows m s).plan, reduceOption_filter_map_slotAt]

/-- The single-shot rule changes no zone's scheduled state at its own minute. -/
theorem stepWindows_scheduledAt (s : State) (z m : Nat) :
    (s.stepWindows m).scheduledAt z m = s.scheduledAt z m := by
  cases h : s.clock with
  | unset => rw [stepWindows_unset h]
  | running =>
    have hzones : (s.stepWindows m).zones = s.zones := by rw [stepWindows_running h]
    unfold State.scheduledAt State.zone
    simp only [(quiet_stepWindows m s).clock, h, stepWindows_candidates h, hzones, List.isEmpty_map,
      List.map_map, List.any_map, priority_comp_flagged]
    rfl

/-! ### The scheduled state of a zone (R41) -/

theorem scheduledAt_unset {s : State} (h : s.clock = .unset) (z m : Nat) : s.scheduledAt z m = none := by
  simp [State.scheduledAt, h]

theorem foldl_max_eq {l : List Nat} {x : Nat} (hx : x ∈ l) (hl : ∀ y ∈ l, y ≤ x) : l.foldl max 0 = x := by
  have hmax : l.max? = some x := List.max?_eq_some_iff.2 ⟨hx, hl⟩
  cases l with
  | nil => cases hx
  | cons a l => simpa [List.max?] using hmax

/-- The window is a candidate of zone `z`, and none has a higher priority. -/
def State.isTop (s : State) (z m : Nat) (w : Window) : Prop :=
  w ∈ s.candidates z m ∧ ∀ v ∈ s.candidates z m, v.priority ≤ w.priority

theorem isTop_priority {s : State} {z m : Nat} {w : Window} (hw : s.isTop z m w) :
    ((s.candidates z m).map Window.priority).foldl max 0 = w.priority :=
  foldl_max_eq (List.mem_map_of_mem hw.1) (by simpa using hw.2)

theorem scheduledAt_default {s : State} (h : s.clock = .running) {z m : Nat}
    (hw : ∀ w, w ∉ s.candidates z m) : s.scheduledAt z m = some (s.zone z).defaultState := by
  simp [State.scheduledAt, h, List.eq_nil_iff_forall_not_mem.2 hw]

theorem isTop_iff_priority {s : State} {z m : Nat} {w v : Window} (hw : s.isTop z m w)
    (hv : v ∈ s.candidates z m) : s.isTop z m v ↔ v.priority = w.priority :=
  ⟨fun h => Nat.le_antisymm (hw.2 v hv) (h.2 w hw.1), fun h => ⟨hv, fun x hx => h ▸ hw.2 x hx⟩⟩

/-- With a candidate, the zone is SECURE or OPEN: SECURE where one of the highest priority asks for it. -/
theorem scheduledAt_isTop {s : State} (h : s.clock = .running) {z m : Nat} {w : Window} (hw : s.isTop z m w) :
    ((∃ v, s.isTop z m v ∧ v.action = .secure) → s.scheduledAt z m = some .secure) ∧
    ((¬∃ v, s.isTop z m v ∧ v.action = .secure) → s.scheduledAt z m = some .opened) := by
  have hne : (s.candidates z m).isEmpty = false := by
    simpa using List.ne_nil_of_mem hw.1
  have hany : ((s.candidates z m).any fun v =>
      decide (v.priority = w.priority) && decide (v.action = .secure)) = true ↔
        ∃ v, s.isTop z m v ∧ v.action = .secure := by
    simp only [List.any_eq_true, Bool.and_eq_true, decide_eq_true_iff]
    exact exists_congr fun v =>
      ⟨fun ⟨hv, hp, ha⟩ => ⟨(isTop_iff_priority hw hv).2 hp, ha⟩,
        fun ⟨hv, ha⟩ => ⟨hv.1, (isTop_iff_priority hw hv.1).1 hv, ha⟩⟩
  simp only [State.scheduledAt, h, hne, isTop_priority hw, ← hany]
  exact ⟨fun ha => by simp [ha], fun ha => by simp [ha]⟩

/-! ### O23 -/

/-- Settles O23: an evaluation stores what the single-shot rule and R41 give at its minute, and its deliveries
leave both as stored. -/
theorem evaluationsFollowTheTable : Obligations.EvaluationsFollowTheTable := by
  unfold Obligations.EvaluationsFollowTheTable
  refine ⟨fun w k hs _ hk => matches_iff hs hk, fun m s => ⟨fun h => ⟨?_, fun z hz => ?_⟩,
    fun h => ⟨fun i hi hw => ?_, fun i w hi hw => ?_, fun z hz => ?_⟩⟩⟩
  · rw [evaluate_windows, stepWindows_unset h]
  · rw [evaluate_scheduled hz, stepWindows_scheduledAt, scheduledAt_unset h]
  · rw [evaluate_windows, stepWindows_getD h m hi, hw]; rfl
  · rw [evaluate_windows, stepWindows_getD h m hi, hw]
    simp [slotAt, Window.singleShot, Window.takesPart, and_assoc]
  · rw [evaluate_scheduled hz, stepWindows_scheduledAt]
    simp only [← mem_candidates]
    refine ⟨scheduledAt_default h, fun w hw ha => (scheduledAt_isTop h hw).1 ⟨w, hw, ha⟩, fun w hw ha =>
      (scheduledAt_isTop h hw).2 ?_⟩
    rintro ⟨v, hv, hs⟩
    exact nomatch hs.symm.trans (ha v hv)

end Sys2Proof.Machine
end

section
/-!
SUPPORT. Saves (R49, R174, R191, R192): the image's length, the image with a page written, a whole pass over its 56
pages, and the effect of each command of a save.
-/

namespace Sys2Proof

theorem table_ext_getD {α : Type} {n : Nat} {t u : Table α n} (a : α)
    (h : ∀ i, i < n → t.getD i a = u.getD i a) : t = u := by
  obtain ⟨ts, ht⟩ := t
  obtain ⟨us, hu⟩ := u
  have hrows : ts = us := List.ext_getElem (ht.trans hu.symm) fun i hi hi' => by
    simpa [Table.getD, hi, hi'] using h i (ht ▸ hi)
  subst hrows
  rfl

/-- The bytes of a table whose records are all `k` bytes long. -/
theorem table_flatMap_length {α β : Type} {n k : Nat} (t : Table α n) {f : α → List β}
    (hf : ∀ a, (f a).length = k) : (t.rows.flatMap f).length = n * k := by
  simp only [List.length_flatMap, hf, List.map_const', List.sum_replicate_nat, t.size]

namespace Machine

/-! ### The image's bytes (log 20) -/

theorem doorConfig_bytes_length (c : DoorConfig) : c.bytes.length = 4 := by
  unfold DoorConfig.bytes
  cases c.place <;> rfl

theorem windowBytes_length (w : Option Window) : (windowBytes w).length = 8 := by cases w <;> rfl

theorem image_bytes_length (i : Image) : i.bytes.length = 56 * 64 := by
  have hdoors := table_flatMap_length i.doors doorConfig_bytes_length
  have hzones := table_flatMap_length i.zones (f := ZoneConfig.bytes) (k := 7) fun _ => rfl
  have hclasses := table_flatMap_length i.classes (f := LockClass.bytes) (k := 2) fun _ => rfl
  have hwindows := table_flatMap_length i.windows windowBytes_length
  have htrunks := table_flatMap_length i.trunks (f := TrunkConfig.bytes) (k := 6) fun _ => rfl
  simp [Image.bytes, hdoors, hzones, hclasses, hwindows, htrunks]

/-! ### A pass over the pages (R191) -/

/-- A part of the image that the write of its own page sets to the owner's, and the write of any other page leaves, is
the owner's once a pass has reached its page. -/
theorem foldl_copyPage {α : Type} (g : Image → α) {page : Nat} (owner stored : Image)
    (hg : ∀ k i, g (owner.copyPage k i) = if page = k then g owner else g i) (n : Nat) :
    g ((List.range n).foldl (fun i k => owner.copyPage k i) stored) =
      if page < n then g owner else g stored := by
  induction n with
  | zero => rfl
  | succ n ih =>
    rw [List.range_succ, List.foldl_append, List.foldl_cons, List.foldl_nil, hg, ih]
    by_cases hpage : page = n
    · simp [hpage]
    · simp only [hpage, if_false, show page < n + 1 ↔ page < n by omega]

theorem image_ext {i j : Image} (hdoors : i.doors = j.doors) (hzones : i.zones = j.zones)
    (hclasses : i.classes = j.classes) (hwindows : i.windows = j.windows) (hplan : i.plan = j.plan)
    (hgap : i.gap = j.gap) (htrunks : i.trunks = j.trunks) : i = j := by
  cases i
  cases j
  simp_all

/-- The 56 pages hold every record: a pass over them leaves the owners' image, whatever was stored. -/
theorem foldl_copyPage_all (owner stored : Image) :
    (List.range 56).foldl (fun i k => owner.copyPage k i) stored = owner := by
  have hfield : ∀ {α : Type} (g : Image → α) (offset : Nat), offset < 56 * 64 →
      (∀ k i, g (owner.copyPage k i) = if pageOf offset = k then g owner else g i) →
      g ((List.range 56).foldl (fun i k => owner.copyPage k i) stored) = g owner := fun g offset ho hg => by
    rw [foldl_copyPage g owner stored hg, if_pos]
    unfold pageOf
    omega
  refine image_ext ?doors ?zones ?classes ?windows ?plan ?gap ?trunks
  case doors =>
    exact table_ext_getD .unmapped fun d hd => hfield (fun i => i.doors.getD d .unmapped) (0 + 4 * d) (by omega)
      fun _ _ => copyRecords_getD ..
  case zones =>
    exact table_ext_getD .default_ fun z hz => hfield (fun i => i.zones.getD z .default_) (2016 + 7 * z) (by omega)
      fun _ _ => copyRecords_getD ..
  case classes =>
    exact table_ext_getD .default_ fun c hc => hfield (fun i => i.classes.getD c .default_) (2464 + 2 * c) (by omega)
      fun _ _ => copyRecords_getD ..
  case windows =>
    exact table_ext_getD none fun w hw => hfield (fun i => i.windows.getD w none) (2480 + 8 * w) (by omega)
      fun _ _ => copyRecords_getD ..
  case plan => exact hfield Image.plan 3504 (by omega) fun _ _ => rfl
  case gap => exact hfield Image.gap 3505 (by omega) fun _ _ => rfl
  case trunks =>
    exact table_ext_getD .default_ fun t ht => hfield (fun i => i.trunks.getD t .default_) (3506 + 6 * t) (by omega)
      fun _ _ => copyRecords_getD ..

/-! ### The page that a save writes (R49, R191) -/

/-- Page `k` of the working image over a stored one: the records that begin in it are their owners', and the others
stay as stored. -/
theorem copyPage_workingImage (k : Nat) (s : State) (stored : Image) :
    let i := s.workingImage.copyPage k stored
    (∀ d, d < 504 → i.doors.getD d .unmapped =
      if 4 * d / 64 = k then (s.door d).toDoorConfig else stored.doors.getD d .unmapped) ∧
    (∀ z, z < 64 → i.zones.getD z .default_ =
      if (2016 + 7 * z) / 64 = k then (s.zone z).toZoneConfig else stored.zones.getD z .default_) ∧
    (∀ c, c < 8 → i.classes.getD c .default_ =
      if (2464 + 2 * c) / 64 = k then s.lockClass c else stored.classes.getD c .default_) ∧
    (∀ w, w < 128 → i.windows.getD w none =
      if (2480 + 8 * w) / 64 = k then s.windows.getD w none else stored.windows.getD w none) ∧
    i.plan = (if k = 54 then s.plan else stored.plan) ∧ i.gap = (if k = 54 then s.gap else stored.gap) ∧
    ∀ t, t < 8 → i.trunks.getD t .default_ =
      if (3506 + 6 * t) / 64 = k then (s.trunk t).toTrunkConfig else stored.trunks.getD t .default_ := by
  have hplan : (pageOf 3504 = k) = (k = 54) := propext eq_comm
  have hgap : (pageOf 3505 = k) = (k = 54) := propext eq_comm
  refine ⟨fun d hd => ?_, fun z hz => ?_, fun c _ => copyRecords_getD .., fun w _ => copyRecords_getD .., ?_, ?_,
    fun t ht => ?_⟩
  · refine (copyRecords_getD ..).trans ?_
    rw [Nat.zero_add]
    exact ite_congr rfl (fun _ => table_getD_mapIdx _ _ _ hd _ _) fun _ => rfl
  · refine (copyRecords_getD ..).trans ?_
    exact ite_congr rfl (fun _ => table_getD_mapIdx _ _ _ hz _ _) fun _ => rfl
  · exact ite_congr hplan (fun _ => rfl) fun _ => rfl
  · exact ite_congr hgap (fun _ => rfl) fun _ => rfl
  · refine (copyRecords_getD ..).trans ?_
    exact ite_congr rfl (fun _ => table_getD_mapIdx _ _ _ ht _ _) fun _ => rfl

/-! ### The commands of a save (R174, R176, R191, R192) -/

theorem exec_saveSettings {s : State} (tag : Nat) (hp : s.powered = true) :
    exec (.saveSettings tag) s = .next (if s.isLoaderBusy then s.serve .notSaving tag 0x04 (refuse .busy)
      else { s with loader := .saving tag .clearMarker }) := by
  change execSaveSettings tag s = _
  rw [execSaveSettings, event_powered hp]

theorem exec_saveSettings_idle {s : State} (tag : Nat) (hp : s.powered = true) (hl : s.loader = .idle) :
    exec (.saveSettings tag) s = .next { s with loader := .saving tag .clearMarker } := by
  simp [exec_saveSettings tag hp, State.isLoaderBusy, hl]

theorem exec_saveSettings_busy {s : State} (tag : Nat) (ht : s.takes) (hl : s.loader ≠ .idle) :
    exec (.saveSettings tag) s = .next (s.answer (.mgmt tag 0x04 .busy [])) := by
  have hg : s.gated .notSaving = true := by simpa [gated_notSaving] using hl
  simp [exec_saveSettings tag ht.1, State.isLoaderBusy, hl, serve_busy ht hg]

theorem exec_savePageWritten {s : State} (hp : s.powered = true) :
    exec .savePageWritten s = .next s.pageAcknowledged := event_powered hp

theorem exec_saveAckTimeout {s : State} (hp : s.powered = true) :
    exec .saveAckTimeout s = .next s.stopSave := event_powered hp

theorem pageAcknowledged_clearMarker {s : State} {tag : Nat} (hl : s.loader = .saving tag .clearMarker) :
    s.pageAcknowledged = { s with
      loader := .saving tag (.page 0),
      memory := ⟨false, s.workingImage.copyPage 0 s.memory.image, s.memory.check⟩ } := by
  simp only [State.pageAcknowledged, hl]
  rfl

theorem pageAcknowledged_page {s : State} {tag k : Nat} (hl : s.loader = .saving tag (.page k)) (hk : k < 55) :
    s.pageAcknowledged = { s with
      loader := .saving tag (.page (k + 1)),
      memory := { s.memory with image := s.workingImage.copyPage (k + 1) s.memory.image } } := by
  simp only [State.pageAcknowledged, hl, hk, if_true]
  rfl

theorem pageAcknowledged_lastPage {s : State} {tag : Nat} (hl : s.loader = .saving tag (.page 55)) :
    s.pageAcknowledged = { s with loader := .saving tag .setMarker } := by
  simp [State.pageAcknowledged, hl]

theorem pageAcknowledged_setMarker {s : State} {tag : Nat} (hl : s.loader = .saving tag .setMarker) :
    s.pageAcknowledged = State.answerSave tag .ok { s with
      loader := .idle, memory := ⟨true, s.memory.image, s.memory.image.check⟩ } := by
  simp [State.pageAcknowledged, hl]

theorem stopSave_saving {s : State} {tag : Nat} {k : SaveStep} (hl : s.loader = .saving tag k) :
    s.stopSave = State.answerSave tag .failed { s with loader := .idle } := by
  simp [State.stopSave, hl]

/-! ### O41 -/

/-- Settles O41, one clause for each command that moves a save, on the equations of a pass and of a written page. -/
theorem savesRunPageByPage : Obligations.SavesRunPageByPage := by
  unfold Obligations.SavesRunPageByPage
  refine ⟨foldl_copyPage_all, image_bytes_length, fun tag s hp => ?_⟩
  refine ⟨exec_saveSettings_idle tag hp, fun hl ha => exec_saveSettings_busy tag ⟨hp, ha⟩ hl, fun hl => ?_,
    fun k hl hk => ?_, fun k w changed hl hk _ hw => ?_, fun hl => ?_, fun hl => ?_, fun k hl => ?_⟩
  · exact ⟨_, copyPage_workingImage 0 s _, by rw [exec_savePageWritten hp, pageAcknowledged_clearMarker hl]⟩
  · exact ⟨_, copyPage_workingImage (k + 1) s _, by rw [exec_savePageWritten hp, pageAcknowledged_page hl hk]⟩
  · have hnext := pageAcknowledged_page (s := { s with windows := changed }) hl hk
    refine ⟨_, exec_savePageWritten hp, by rw [hnext], ?_⟩
    rw [hnext]
    refine (copyRecords_getD ..).trans (if_neg ?_)
    unfold pageOf
    omega
  · rw [exec_savePageWritten hp, pageAcknowledged_lastPage hl]
  · rw [exec_savePageWritten hp, pageAcknowledged_setMarker hl]
    rfl
  · rw [exec_saveAckTimeout hp, stopSave_saving hl]
    rfl

end Machine
end Sys2Proof
end
